-- ==== Sys2Proof/Word.lean ====
section
/-! DEFINITION. The words of the hardware and their plain names (spec/00_scope.md R8, R10; spec/30_encoding.md R80 to R88). -/

namespace Sys2Proof

/-- A byte of memory (R10). -/
abbrev Byte := BitVec 8

/-- A pixel of the pixel buffer, `PIX_W` = 32 bits (R8, R83). -/
abbrev Pixel := BitVec 32

/-- A clock sample in milliseconds, `TW` = 32 bits (R8, R25). -/
abbrev Millis := BitVec 32

/-- The identifier of an operation of the engine, 8 bits, opaque to the block (R86). -/
abbrev OpId := BitVec 8

/-- A command word `CW` (R88). -/
abbrev CmdWord := BitVec 36

/-- A process exit status: 0, 1 or 2; 3 is never produced (R85). -/
abbrev ExitStatus := Fin 3

/-- The answer of a transaction that can fail: `ok` or `fail` (R180). -/
inductive Grant where
  | ok
  | fail
deriving DecidableEq, Repr, Inhabited

end Sys2Proof
end

