-- ==== Sys2Proof/Config.lean ====
section
/-! DEFINITION. The implementation parameters (spec/00_scope.md R8, R9) and the free values: the parameters of the machine
that is reset, and the environment's answers where nothing has scripted them (spec/43_external_interfaces.md R180, R195).
A free value is a constant without a body: nothing can be proved of its value. -/

namespace Sys2Proof

/-- The parameters of one machine (R8). `TW`, `PIX_W`, `WHITE`, `BLACK`, `EXIT_OK`, `EXIT_INIT` and `EXIT_LOCK` have their
value in the spec and are constants of the model; `NPIX` and `VRAM_LEN` follow from the others. -/
structure Params where
  w          : Nat
  h          : Nat
  vramBase   : Nat
  memSize    : Nat
  threshold  : Nat
  vecCode1   : OpId
  vecCode2   : OpId
  exitCreate : ExitStatus
deriving DecidableEq, Repr, Inhabited

/-- `NPIX = W * H` (R8). -/
def Params.npix (p : Params) : Nat := p.w * p.h

/-- `VRAM_LEN = NPIX / 8` (R8, R82). -/
def Params.vramLen (p : Params) : Nat := p.npix / 8

/-- The constraints of R8: `W >= 1`, `H >= 1`, `NPIX mod 8 = 0`, the video region inside memory (R54), the two vector codes
distinct. `EXIT_CREATE` is the status of a fatal failure, and a fatal failure "ends the process with a non-zero status"
(spec/00_scope.md glossary, Fatal): DEDUCED, log 2. -/
def Params.ok (p : Params) : Bool :=
  decide (1 ≤ p.w) && decide (1 ≤ p.h) && decide (p.npix % 8 = 0) &&
  decide (p.vramBase + p.vramLen ≤ p.memSize) && decide (p.vecCode1 ≠ p.vecCode2) && decide (p.exitCreate ≠ 0)

/-- A machine's parameters with the proof that they meet R8: "an instance whose parameters break the constraint is not an
instance of this hardware" (R54). -/
structure Board where
  params : Params
  isOk   : params.ok = true
deriving DecidableEq, Repr

namespace Config

/-- FREE VALUE. The parameters of the machine that is reset, before their check (log 1). -/
opaque rawParams : Params

/-- The smallest admissible parameters; they stand in only where `rawParams` does not meet R8 (log 2). -/
def leastParams : Params :=
  { w := 8, h := 1, vramBase := 0, memSize := 1, threshold := 0, vecCode1 := 0, vecCode2 := 1, exitCreate := 1 }

/-- The board of the machine that is reset: any admissible parameters, with `EXIT_CREATE` = 1 as R8 gives it (log 1, log 2). -/
def board : Board :=
  if h : ({ rawParams with exitCreate := 1 } : Params).ok = true then
    ⟨{ rawParams with exitCreate := 1 }, h⟩
  else
    ⟨leastParams, by decide⟩

/-- FREE VALUE. The answer of `InitPresentation` in the n-th operation (R190; log 3). -/
opaque freeInit : Nat → Grant
/-- FREE VALUE. The answer of `Create` (R183; log 3). -/
opaque freeCreate : Nat → Grant
/-- FREE VALUE. The answer of `Lock` (R184; log 3). -/
opaque freeLock : Nat → Grant
/-- FREE VALUE. The answer of `PollQuit` (R188; log 3). -/
opaque freeQuit : Nat → Bool
/-- FREE VALUE. The answer of `ReadIE` (R192; log 3). -/
opaque freeIe : Nat → Bool
/-- FREE VALUE. The `halted` an injected vector returns (R181; log 3). -/
opaque freeHv : Nat → Bool
/-- FREE VALUE. The `halted` a fetched operation returns (R181; log 3). -/
opaque freeH : Nat → Bool
/-- FREE VALUE. The identifier `Fetch` returns (R182; log 3). -/
opaque freeOp : Nat → OpId
/-- FREE VALUE. The sample `Now` returns (R187; log 3, log 14). -/
opaque freeNow : Nat → Millis
/-- FREE VALUE. The bytes the engine writes while it executes an injected vector (R181; log 3). -/
opaque freeVecWrites : Nat → List Host.Cell
/-- FREE VALUE. The bytes the engine writes while it executes a fetched operation (R181; log 3). -/
opaque freeOpWrites : Nat → List Host.Cell
/-- FREE VALUE. The word at a pixel index of a buffer just created (R28, U12; log 12). -/
opaque freePixel : Nat → Nat → Pixel

end Config

end Sys2Proof
end

