-- ==== Sys2Proof/Syntax.lean ====
section
/-! DEFINITION. The six operations and the two pseudo-operations (spec/30_encoding.md R87, R98). -/

namespace Sys2Proof

/-- The operations of the block, one constructor for each row of spec/opcode_table.json (R87). -/
inductive Instr where
  /-- Startup (R160). -/
  | init
  /-- One pass of the loop (R163). -/
  | iter
  /-- Look at the clock (R111); the operand is a clock sample. -/
  | tick (now : Millis)
  /-- Hand a pending request over (R114); the operand is the engine's interrupt-enable flag. -/
  | deliver (ie : Bool)
  /-- Decode and present one frame (R140). -/
  | render
  /-- Teardown (R170). -/
  | shutdown
deriving DecidableEq, Repr

/-- The pseudo-operations (R98). -/
inductive Pseudo where
  | iters (n : Nat)
  | td (now : Millis) (ie : Bool)
deriving DecidableEq, Repr

/-- Their expansions (R98): `ITERS n` is `n` times `ITER`; `TD now, ie` is `TICK now` then `DELIVER ie`. -/
def Pseudo.expand : Pseudo → List Instr
  | .iters n => List.replicate n .iter
  | .td now ie => [.tick now, .deliver ie]

end Sys2Proof
end

