-- ==== Sys2Proof/WellFormed.lean ====
section
/-! DEFINITION. What a well-formed operation and a well-formed command word are (spec/30_encoding.md R88, R89, R91).
The check of the parameters (R8) is `Params.ok` in Config.lean. -/

namespace Sys2Proof

/-- A row of the operation table: the words `CW` with `CW & mask = pat` spell it (R89). -/
structure OpRow where
  mnemonic : String
  pat      : CmdWord
  mask     : CmdWord
deriving DecidableEq, Repr

/-- The table of R89. -/
def opTable : List OpRow :=
  [ ⟨"INIT",     0x000000000#36, 0xFFFFFFFFF#36⟩,
    ⟨"ITER",     0x200000000#36, 0xFFFFFFFFF#36⟩,
    ⟨"TICK",     0x400000000#36, 0xF00000000#36⟩,
    ⟨"DELIVER",  0x600000000#36, 0xEFFFFFFFF#36⟩,
    ⟨"RENDER",   0x800000000#36, 0xFFFFFFFFF#36⟩,
    ⟨"SHUTDOWN", 0xA00000000#36, 0xFFFFFFFFF#36⟩ ]

/-- The row of an operation. -/
def Instr.row : Instr → OpRow
  | .init      => ⟨"INIT",     0x000000000#36, 0xFFFFFFFFF#36⟩
  | .iter      => ⟨"ITER",     0x200000000#36, 0xFFFFFFFFF#36⟩
  | .tick _    => ⟨"TICK",     0x400000000#36, 0xF00000000#36⟩
  | .deliver _ => ⟨"DELIVER",  0x600000000#36, 0xEFFFFFFFF#36⟩
  | .render    => ⟨"RENDER",   0x800000000#36, 0xFFFFFFFFF#36⟩
  | .shutdown  => ⟨"SHUTDOWN", 0xA00000000#36, 0xFFFFFFFFF#36⟩

/-- A word spells the operation of a row when `CW & mask = match` (R89). -/
def OpRow.spelledBy (r : OpRow) (w : CmdWord) : Bool := decide (w &&& r.mask = r.pat)

/-- A well-formed command word spells some row; every other word is reserved (R91). -/
def wordWf (w : CmdWord) : Bool := opTable.any (fun r => r.spelledBy w)

/-- Every operation is well formed: its operands are typed at the width of their field (R90), so no term is ill formed. -/
def Instr.wf : Instr → Bool
  | .init => true
  | .iter => true
  | .tick _ => true
  | .deliver _ => true
  | .render => true
  | .shutdown => true

end Sys2Proof
end

