-- ==== Sys2Proof/Decode.lean ====
section
/-! DEFINITION. The decoder of command words and, after it, the encoder (spec/30_encoding.md R88 to R91). -/

namespace Sys2Proof

/-- `CW[35:33]`, the operation code (R88). -/
def cwOp (w : CmdWord) : BitVec 3 := w.extractLsb' 33 3

/-- `CW[32]`, the interrupt-enable operand (R88). -/
def cwIe (w : CmdWord) : Bool := w.getLsbD 32

/-- `CW[31:0]`, the clock operand (R88). -/
def cwNow (w : CmdWord) : Millis := w.extractLsb' 0 32

/-- What a command word decodes to: an operation, or the reason it is reserved (R91). -/
inductive Decoded where
  | instr (i : Instr)
  /-- `op` is 110 or 111. -/
  | reservedOp
  /-- A 1 in a field that must be 0. -/
  | mustBeZero
deriving DecidableEq, Repr

/-- An operation without operands: both operand fields must be 0 (R88, R91). -/
def decodePlain (w : CmdWord) (i : Instr) : Decoded :=
  if cwIe w = false ∧ cwNow w = 0#32 then .instr i else .mustBeZero

/-- The decoder (R88 to R91). -/
def decode (w : CmdWord) : Decoded :=
  if cwOp w = 0b000#3 then decodePlain w .init
  else if cwOp w = 0b001#3 then decodePlain w .iter
  else if cwOp w = 0b010#3 then (if cwIe w = false then .instr (.tick (cwNow w)) else .mustBeZero)
  else if cwOp w = 0b011#3 then (if cwNow w = 0#32 then .instr (.deliver (cwIe w)) else .mustBeZero)
  else if cwOp w = 0b100#3 then decodePlain w .render
  else if cwOp w = 0b101#3 then decodePlain w .shutdown
  else .reservedOp

/-- `{op, ie, now}` as one word (R10, R88). -/
def packWord (op : BitVec 3) (ie : Bool) (now : Millis) : CmdWord := (op ++ BitVec.ofBool ie ++ now : BitVec (3 + 1 + 32))

/-- The word of an operation (R88 to R90). -/
def encode : Instr → CmdWord
  | .init       => packWord 0b000#3 false 0#32
  | .iter       => packWord 0b001#3 false 0#32
  | .tick now   => packWord 0b010#3 false now
  | .deliver ie => packWord 0b011#3 ie 0#32
  | .render     => packWord 0b100#3 false 0#32
  | .shutdown   => packWord 0b101#3 false 0#32

/-- The operation of a decoded word, if there is one. -/
def Decoded.instr? : Decoded → Option Instr
  | .instr i => some i
  | .reservedOp => none
  | .mustBeZero => none

/-- The decoder on a word given as a number, bit 0 first. A command word has 36 bits; the table's rows are carried in whole
bytes, so the bits above bit 35 must be 0. -/
def decodeTableWord (_nbits w : Nat) : Option Instr :=
  if w < 2 ^ 36 then (decode (BitVec.ofNat 36 w)).instr? else none

end Sys2Proof
end

