-- ==== Sys2Proof/Machine/State.lean ====
section
/-! DEFINITION. The state of the machine (spec/10_state.md), the events of its trace (R36), the environment's answers
(spec/43_external_interfaces.md R180, spec/30_encoding.md R97), the reasons a step can stop, and the state after reset. -/

namespace Sys2Proof.Machine

/-- The two interrupt vectors: `V1`, the first of the alternation, and `V2`, end of frame (R22). -/
inductive Vec where
  | v1
  | v2
deriving DecidableEq, Repr, Inhabited

/-- The run state `S.run` (R29). -/
inductive Run where
  | off
  | running
  | exited (c : ExitStatus)
deriving DecidableEq, Repr

/-- What a failure report says (R193). -/
inductive ReportKind where
  | initFailure
  | createFailure
  | lockFailure
deriving DecidableEq, Repr

/-- The events of the trace, one for each transaction of R180 (R36). -/
inductive Event where
  | initPresentation
  | pollQuit
  | readIE
  | exec (code : OpId)
  | fetch
  | now
  | create
  | lock
  | unlock
  | present (frame : List Pixel)
  | report (kind : ReportKind)
  | releasePixelBuffer
  | releasePresentation
  | exit (c : ExitStatus)
deriving DecidableEq, Repr

/-- The environment's answers written beside one operation (R97). An answer that is left out and asked for is a free value.
`mem` holds the bytes of the video region, first byte first, of any length (log 5). `vecWrites` and `opWrites` are the bytes of memory the engine
writes while it executes the injected vector and the fetched operation (R181). -/
structure Answers where
  init      : Option Grant := none
  create    : Option Grant := none
  lock      : Option Grant := none
  quit      : Option Bool := none
  ie        : Option Bool := none
  hv        : Option Bool := none
  h         : Option Bool := none
  op        : Option OpId := none
  now       : Option Millis := none
  mem       : List Byte := []
  vecWrites : Option (List Host.Cell) := none
  opWrites  : Option (List Host.Cell) := none
deriving DecidableEq, Repr, Inhabited

/-- What the environment answers during one operation, every answer settled. In one operation each transaction is asked at
most once, but for `Exec`, whose two answers have names of their own (R163, R172). -/
structure Env where
  init      : Grant
  create    : Grant
  lock      : Grant
  quit      : Bool
  ie        : Bool
  hv        : Bool
  h         : Bool
  op        : OpId
  now       : Millis
  mem       : List Byte
  vecWrites : List Host.Cell
  opWrites  : List Host.Cell
deriving DecidableEq, Repr

/-- The machine's memory (R50): (address, byte) pairs, addresses strictly rising, no entry equal to the byte an unlisted
address reads as (`Memory.wf` in Ops.lean). -/
abbrev Memory := List Host.Cell

/-- Everything the machine holds between operations. -/
structure State where
  /-- The parameters (R8); constants of the machine (R9). -/
  cfg           : Board
  /-- `S.run` (R29). -/
  run           : Run
  /-- `S.pending` (R21). -/
  pending       : Bool
  /-- `S.next_vector` (R22). -/
  nextVector    : Vec
  /-- `S.latched_vector` (R23). -/
  latchedVector : Vec
  /-- `S.last_tick` (R25). -/
  lastTick      : Millis
  /-- `S.pb_created` (R26). -/
  pbCreated     : Bool
  /-- `S.pb_locked` (R27). -/
  pbLocked      : Bool
  /-- `PB` (R28); empty while the buffer does not exist (log 12). -/
  pb            : List Pixel
  /-- The memory the engine owns (R50; log 4). -/
  mem           : Memory
  /-- The event trace, oldest first (R36; log 6). -/
  trace         : List Event
  /-- What the most recent `DELIVER` returned (R84; log 7). -/
  result        : Option Vec
  /-- Command words handed over and not yet run (R88; log 10). -/
  cmds          : List CmdWord
  /-- Answers for the coming operations, the next operation's first (R97; log 3). -/
  script        : List Answers
  /-- Operations begun so far: the counter the free values are applied to (log 19). -/
  opCount       : Nat
deriving DecidableEq, Repr

/-- No step of this machine ends in a fault: every operation rule gives a next state, the fatal path (which is described in
full and is a next state, R204) or a refusal (R13; log 9). Safe: there is nothing to assume away. -/
inductive Fault where
deriving DecidableEq, Repr

/-- Why a step is refused. -/
inductive Refusal where
  /-- An operation without a meaning. No arm raises it. Safe. -/
  | notModelled (mnemonic : String)
  /-- Raised by every meaning: the operation is not admitted in this run state (R96). Safe: the spec's own refusal. -/
  | notAdmitted
  /-- Raised by `step`: the command word's `op` is 110 or 111 (R91). Safe: the spec's own refusal. -/
  | reservedOp
  /-- Raised by `step`: the command word has a 1 in a field that must be 0 (R91). Safe: the spec's own refusal. -/
  | mustBeZero
  /-- Raised by `step`: no command is queued and the run has ended, `EXITED(c)` (R171, R96). Safe: the spec's own end. -/
  | runEnded
deriving DecidableEq, Repr

/-- The power-on state: R20's reset column (log 8), no pixel buffer, nothing listed in memory (log 4), and the model's own
fields empty (log 3, 6, 7, 10, 19). -/
def State.reset : State :=
  { cfg := Config.board
    run := .off
    pending := false
    nextVector := .v2
    latchedVector := .v2
    lastTick := 0#32
    pbCreated := false
    pbLocked := false
    pb := []
    mem := []
    trace := []
    result := none
    cmds := []
    script := []
    opCount := 0 }

end Sys2Proof.Machine
end

