-- ==== Sys2Proof/Machine/Flags.lean ====
section
/-! DEFINITION. The conditions and codes of the scheduler and of the exit (spec/40_scheduler.md R110, R113;
spec/30_encoding.md R84, R85). The block's one flag is `S.pending` (spec/10_state.md R31). -/

namespace Sys2Proof.Machine

/-- `elapsed = (now - S.last_tick) mod 2^32` (R110). -/
def elapsed (now lastTick : Millis) : Millis := now - lastTick

/-- A `TICK` is a crossing when `elapsed >= THRESHOLD` (R110). -/
def crossing (threshold : Nat) (now lastTick : Millis) : Bool := decide (threshold ≤ (elapsed now lastTick).toNat)

/-- The toggle `1 - x` of the vector code (R113). -/
def Vec.toggle : Vec → Vec
  | .v1 => .v2
  | .v2 => .v1

/-- The one-bit code of a vector: 0 is `V1`, 1 is `V2` (R22). -/
def Vec.code : Vec → BitVec 1
  | .v1 => 0#1
  | .v2 => 1#1

/-- The two-bit code `{valid, vec}` of `DELIVER`'s result (R84). -/
def resultCode : Option Vec → BitVec 2
  | none => 0b00#2
  | some v => (1#1 ++ v.code : BitVec (1 + 1))

/-- The two-bit status output (R85). -/
def statusCode (c : ExitStatus) : BitVec 2 := BitVec.ofNat 2 c.val

/-- `EXIT_OK` (R8, R201). -/
def exitOk : ExitStatus := 0

/-- `EXIT_INIT` (R8, R201). -/
def exitInit : ExitStatus := 1

/-- `EXIT_LOCK` (R8, R201). -/
def exitLock : ExitStatus := 2

/-- `VEC_CODE(v)`, the identifier handed to the engine for a vector (R84). -/
def vecCode (p : Params) : Vec → OpId
  | .v1 => p.vecCode1
  | .v2 => p.vecCode2

end Sys2Proof.Machine
end

