-- ==== Sys2Proof/Machine/Ops.lean ====
section
/-! DEFINITION. The named operations over memory, the trace, the pixel buffer and the run state, and the fatal path
(spec/20_memory.md R50 to R52, spec/43_external_interfaces.md R180 to R196, spec/60_exceptions.md R204). -/

namespace Sys2Proof.Machine

/-! ## Memory (R50) -/

/-- What an unlisted address reads as. The spec gives memory no contents before the program image: DESIGN CHOICE, log 4. -/
def Memory.unlisted : Byte := 0x00#8

/-- The byte at an address. -/
def Memory.get : Memory → Nat → Byte
  | [], _ => Memory.unlisted
  | (b, v) :: m, a => if a = b then v else Memory.get m a

/-- The memory with one byte replaced, in canonical form. -/
def Memory.set : Memory → Nat → Byte → Memory
  | [], a, v => if v = Memory.unlisted then [] else [(a, v)]
  | (b, u) :: m, a, v =>
    if a < b then (if v = Memory.unlisted then (b, u) :: m else (a, v) :: (b, u) :: m)
    else if a = b then (if v = Memory.unlisted then m else (a, v) :: m)
    else (b, u) :: Memory.set m a v

/-- The canonical form: addresses strictly rising, no entry equal to what an unlisted address reads as. -/
def Memory.wf (m : Memory) : Bool :=
  decide (m.Pairwise (fun c d => c.1 < d.1)) && m.all (fun c => decide (c.2 ≠ Memory.unlisted))

/-- The engine's writes during one `Exec` (R181), in order. Only the bytes `0 .. MEM_SIZE-1` exist (R50); a write elsewhere
has no byte to land in (log 16). -/
def engineWrites (p : Params) (m : Memory) (ws : List Host.Cell) : Memory :=
  ws.foldl (fun m c => if c.1 < p.memSize then m.set c.1 c.2 else m) m

/-! ## The trace (R36) -/

/-- `emit Event` (R12): the event is appended to the trace. -/
def State.emit (s : State) (e : Event) : State := { s with trace := s.trace ++ [e] }

/-! ## The engine (R181) -/

/-- `Exec(code)`: the event, and the bytes of memory the engine changes. -/
def execEngine (code : OpId) (ws : List Host.Cell) (s : State) : State :=
  { s.emit (.exec code) with mem := engineWrites s.cfg.params s.mem ws }

/-! ## The pixel buffer (R26 to R28, R183 to R186) -/

/-- A successful `Create`: the buffer exists, and its words have no value of their own yet (R28, U12; log 12). -/
def createBuffer (s : State) : State :=
  { s with pbCreated := true, pb := (List.range s.cfg.params.npix).map (Config.freePixel s.opCount) }

/-- A successful `Lock` (R184). -/
def lockBuffer (s : State) : State := { s with pbLocked := true }

/-- `Unlock` (R185): the event, then the bit. -/
def unlockBuffer (s : State) : State := { s.emit .unlock with pbLocked := false }

/-- `Present` (R186): the whole content of `PB` at that moment (R36). -/
def presentFrame (s : State) : State := s.emit (.present s.pb)

/-- `ReleasePixelBuffer` (R191): the event; the buffer exists no longer (R28). -/
def releaseBuffer (s : State) : State := { s.emit .releasePixelBuffer with pbCreated := false, pb := [] }

/-! ## The ways out (R170, R204) -/

/-- Release the pixel buffer if it exists, then the presentation resources (R191). -/
def releaseAll (s : State) : State :=
  (if s.pbCreated = true then releaseBuffer s else s).emit .releasePresentation

/-- `S.run <- EXITED(c)`, `emit Exit(c)` (R194). -/
def exitWith (c : ExitStatus) (s : State) : State := ({ s with run := .exited c } : State).emit (.exit c)

/-- `raise Fatal(c)`, the block's only trap entry; there is no return from it (R204). The kind of the report is R201's. -/
def raiseFatal (kind : ReportKind) (c : ExitStatus) (s : State) : State :=
  exitWith c (releaseAll (s.emit (.report kind)))

end Sys2Proof.Machine
end

