-- ==== Sys2Proof/Machine/Operands.lean ====
section
/-! DEFINITION. What an operation reads: the environment's answers (spec/43_external_interfaces.md R180), the bytes and bits
of the video region (spec/20_memory.md R54, R55), the mapping of bit to pixel (spec/41_video_decoder.md R130 to R137) and
the byte place of a pixel on a byte-addressed surface (spec/43_external_interfaces.md R196). -/

namespace Sys2Proof.Machine

/-! ## The environment's answers -/

/-- The answers of operation number `n`: what the script gives, and a free value for each it leaves out (R97; log 3). -/
def resolve (a : Answers) (n : Nat) : Env :=
  { init      := a.init.getD (Config.freeInit n)
    create    := a.create.getD (Config.freeCreate n)
    lock      := a.lock.getD (Config.freeLock n)
    quit      := a.quit.getD (Config.freeQuit n)
    ie        := a.ie.getD (Config.freeIe n)
    hv        := a.hv.getD (Config.freeHv n)
    h         := a.h.getD (Config.freeH n)
    op        := a.op.getD (Config.freeOp n)
    now       := a.now.getD (Config.freeNow n)
    mem       := a.mem
    vecWrites := a.vecWrites.getD (Config.freeVecWrites n)
    opWrites  := a.opWrites.getD (Config.freeOpWrites n) }

/-- What the environment answers during the next operation. -/
def State.env (s : State) : Env := resolve (s.script.headD {}) s.opCount

/-- The next operation begins: its answers are taken off the script and it is counted. -/
def State.begun (s : State) : State := { s with script := s.script.tail, opCount := s.opCount + 1 }

/-! ## The video region -/

/-- Every address of the video region exists (R54). -/
theorem regionAddr_lt (b : Board) (j : Fin b.params.vramLen) : b.params.vramBase + j.val < b.params.memSize := by
  have h := b.isOk
  simp only [Params.ok, Bool.and_eq_true, decide_eq_true_eq] at h
  have := j.isLt
  omega

/-- `MemRead(a, 1)` (R12, R50): an address outside memory cannot be formed. -/
def memRead (s : State) (a : Nat) (_ : a < s.cfg.params.memSize) : Byte := s.mem.get a

/-- The bytes of the video region, first byte first (R54): what the script says `MemRead` answers (`mem`, R97), else what
memory holds (DESIGN CHOICE, log 5). R97 does not say what a `mem` whose length is not `VRAM_LEN` means; DESIGN CHOICE (log 5):
bytes a shorter list leaves out are memory's, an empty list leaves out all of them, bytes past the region's end are ignored. -/
def region (e : Env) (s : State) : List Byte :=
  List.ofFn fun j : Fin s.cfg.params.vramLen =>
    e.mem.getD j.val (memRead s (s.cfg.params.vramBase + j.val) (regionAddr_lt s.cfg j))

/-- Source bit `i` of a region: bit `i mod 8` of byte `i div 8` (R55). -/
def bitOf (m : List Byte) (i : Nat) : Bool := (m.getD (i / 8) 0#8).getLsbD (i % 8)

/-! ## The mapping -/

/-- Source column, from the left (R131). -/
def srcCol (p : Params) (i : Nat) : Nat := i / p.h

/-- Source row, from the bottom (R131). -/
def srcRow (p : Params) (i : Nat) : Nat := i % p.h

/-- `dest_index` (R133). -/
def destIndex (p : Params) (i : Nat) : Nat := (p.h - 1 - srcRow p i) * p.w + srcCol p i

/-- `src_index`, its inverse (R134). -/
def srcIndex (p : Params) (k : Nat) : Nat := (k % p.w) * p.h + (p.h - 1 - k / p.w)

/-! ## Pixels -/

/-- The pixel word of bit 1: every channel at its maximum (R57, R83). -/
def white : Pixel := 0xFFFFFFFF#32

/-- The pixel word of bit 0: alpha in bits 31:24 at its maximum, the colours at their minimum (R57, R83). -/
def black : Pixel := 0xFF000000#32

/-- `pix(b)` (R136). -/
def pix (b : Bool) : Pixel := if b = true then white else black

/-- `PixWrite(k, v)` on the buffer's words (R52). -/
def pixWrite (f : List Pixel) (k : Nat) (v : Pixel) : List Pixel := f.set k v

/-- The decode loop: for `i = 0 .. NPIX-1` in that order, one `PixWrite` into the buffer as it stands (R137, R140). -/
def writePixels (p : Params) (m : List Byte) (f : List Pixel) : List Pixel :=
  (List.range p.npix).foldl (fun f i => pixWrite f (destIndex p i) (pix (bitOf m i))) f

/-- The pure function `DECODE(m)`, by destination index (R134, R137). -/
def decodeFrame (p : Params) (m : List Byte) : List Pixel :=
  (List.range p.npix).map fun k => pix (bitOf m (srcIndex p k))

/-! ## A byte-addressed surface (R57, R196) -/

/-- The pitch the spec assumes, `4 * W` (R57). -/
def pitch (p : Params) : Nat := 4 * p.w

/-- The address of pixel `k`'s first byte on a surface at `pointer` with a given pitch (R196). -/
def pixelAddr (p : Params) (pointer surfacePitch k : Nat) : Nat := pointer + (k / p.w) * surfacePitch + (k % p.w) * 4

/-- The bytes of a pixel word, least significant first (R57). -/
def pixelBytes (v : Pixel) : List Byte :=
  [v.extractLsb' 0 8, v.extractLsb' 8 8, v.extractLsb' 16 8, v.extractLsb' 24 8]

/-- A frame as the bytes of a surface with the pitch the spec assumes (R57, R196). -/
def surfaceBytes (f : List Pixel) : List Byte := f.flatMap pixelBytes

end Sys2Proof.Machine
end

