-- ==== Sys2Proof/Machine/Decoder.lean ====
section
/-! DEFINITION. The video decoder: `RENDER` (spec/41_video_decoder.md R140 to R144). -/

namespace Sys2Proof.Machine

/-- How a render ends: with a frame presented, or on the fatal path (R140). -/
inductive RenderEnd where
  | done (s : State)
  | fatal (s : State)
deriving DecidableEq, Repr

/-- `PB <- DECODE(m)`: the pixel writes, admitted only while the buffer exists and is locked (R52). -/
def drawFrame (e : Env) (s : State) : State :=
  if s.pbCreated = true ∧ s.pbLocked = true then { s with pb := writePixels s.cfg.params (region e s) s.pb } else s

/-- `RENDER` from its `Lock` on (R140, R142, R143). -/
def lockAndDraw (e : Env) (s : State) : RenderEnd :=
  match e.lock with
  | .fail => .fatal (raiseFatal .lockFailure exitLock (s.emit .lock))
  | .ok => .done (presentFrame (unlockBuffer (drawFrame e (lockBuffer (s.emit .lock)))))

/-- `RENDER()` (R140): the first one creates the buffer (R141). -/
def render (e : Env) (s : State) : RenderEnd :=
  if s.pbCreated = true then lockAndDraw e s
  else
    match e.create with
    | .fail => .fatal (raiseFatal .createFailure s.cfg.params.exitCreate (s.emit .create))
    | .ok => lockAndDraw e (createBuffer (s.emit .create))

/-- The state a render ends in. -/
def RenderEnd.state : RenderEnd → State
  | .done s => s
  | .fatal s => s

/-- Admission of the five operations other than `INIT`: only while RUNNING (R96). The operation takes its answers and
runs. -/
def whenRunning (f : Env → State → State) (s : State) : Host.Outcome State Fault Refusal :=
  match s.run with
  | .running => .next (f s.env s.begun)
  | .off => .refused .notAdmitted
  | .exited _ => .refused .notAdmitted

/-- The direct command `RENDER` (R140, R162). -/
def execRender (s : State) : Host.Outcome State Fault Refusal :=
  whenRunning (fun e s => (render e s).state) s

end Sys2Proof.Machine
end

