-- ==== Sys2Proof/Machine/Scheduler.lean ====
section
/-! DEFINITION. The interrupt scheduler: `TICK` and `DELIVER` (spec/40_scheduler.md R111, R114). -/

namespace Sys2Proof.Machine

/-- The first three register writes of a crossing: the new time, the toggled vector, the snapshot of it (R111, R115). -/
def latchCrossing (now : Millis) (s : State) : State :=
  { s with lastTick := now, nextVector := s.nextVector.toggle, latchedVector := s.nextVector.toggle }

/-- `S.pending <- 1` (R111). -/
def raiseRequest (s : State) : State := { s with pending := true }

/-- What a crossing does after its register writes: render if the vector made next is `V2`, then raise the request; a fatal
render ends the `TICK` (R111, R123). -/
def finishCrossing (e : Env) (s : State) : State :=
  match s.nextVector with
  | .v1 => raiseRequest s
  | .v2 =>
    match render e s with
    | .done t => raiseRequest t
    | .fatal t => t

/-- `TICK(now)` (R111, R112). -/
def tick (e : Env) (now : Millis) (s : State) : State :=
  if crossing s.cfg.params.threshold now s.lastTick = true then finishCrossing e (latchCrossing now s) else s

/-- `DELIVER(ie)` (R114). What it returns stands in `result`. -/
def deliver (ie : Bool) (s : State) : State :=
  if s.pending = true ∧ ie = true then { s with pending := false, result := some s.latchedVector }
  else { s with result := none }

/-- The direct command `TICK now` (R111, R162). -/
def execTick (now : Millis) (s : State) : Host.Outcome State Fault Refusal :=
  whenRunning (fun e s => tick e now s) s

/-- The direct command `DELIVER ie` (R114, R162). -/
def execDeliver (ie : Bool) (s : State) : Host.Outcome State Fault Refusal :=
  whenRunning (fun _ s => deliver ie s) s

end Sys2Proof.Machine
end

