-- ==== Sys2Proof/Machine/Sequencer.lean ====
section
/-! DEFINITION. The control-loop sequencer: `INIT`, `ITER`, `SHUTDOWN` (spec/42_control_loop.md R160, R163, R170). The phase
functions of `ITER` stand in the order of spec/10_state.md R32, last phase first. -/

namespace Sys2Proof.Machine

/-- The register writes of a successful `INIT` (R160, R40). -/
def initRegisters (s : State) : State :=
  { s with
    pending := false
    nextVector := .v2
    latchedVector := .v2
    lastTick := 0#32
    pbCreated := false
    pbLocked := false
    pb := []
    run := .running }

/-- `INIT()` (R160). A failure here is not the fatal path: nothing exists to be released. -/
def initBlock (e : Env) (s : State) : State :=
  match e.init with
  | .fail => exitWith exitInit ((s.emit .initPresentation).emit (.report .initFailure))
  | .ok => initRegisters (s.emit .initPresentation)

/-- `SHUTDOWN()` (R170). -/
def shutdown (s : State) : State := exitWith exitOk (releaseAll s)

/-- `P_TICK`: sample the clock, then `TICK` (R163, R168). -/
def phaseTick (e : Env) (s : State) : State := tick e e.now (s.emit .now)

/-- `P_FETCH`: fetch and execute one operation of the engine; a halt ends the run (R163, R167). -/
def phaseFetch (e : Env) (s : State) : State :=
  if e.h = true then shutdown (execEngine e.op e.opWrites (s.emit .fetch))
  else phaseTick e (execEngine e.op e.opWrites (s.emit .fetch))

/-- `P_VEC`: hand the delivered vector to the engine; a halt ends the run before the fetch (R163, R165, R167). -/
def phaseVec (e : Env) (x : Vec) (s : State) : State :=
  if e.hv = true then shutdown (execEngine (vecCode s.cfg.params x) e.vecWrites s)
  else phaseFetch e (execEngine (vecCode s.cfg.params x) e.vecWrites s)

/-- What follows `DELIVER` inside `ITER`: `P_VEC` if it returned a vector, then `P_FETCH` in either case (R163, R166). -/
def afterDeliver (e : Env) (s : State) : State :=
  match s.result with
  | some x => phaseVec e x s
  | none => phaseFetch e s

/-- `P_DELIVER`: read the engine's flag, then `DELIVER` (R163). -/
def phaseDeliver (e : Env) (s : State) : State := afterDeliver e (deliver e.ie (s.emit .readIE))

/-- `P_POLL`, and with it the whole `ITER()`: a quit ends the run before anything else (R163, R164). -/
def iterate (e : Env) (s : State) : State :=
  if e.quit = true then shutdown (s.emit .pollQuit) else phaseDeliver e (s.emit .pollQuit)

/-- `INIT`, admitted only in OFF (R96, R160). -/
def execInit (s : State) : Host.Outcome State Fault Refusal :=
  match s.run with
  | .off => .next (initBlock s.env s.begun)
  | .running => .refused .notAdmitted
  | .exited _ => .refused .notAdmitted

/-- `ITER` (R163). -/
def execIter (s : State) : Host.Outcome State Fault Refusal := whenRunning iterate s

/-- The direct command `SHUTDOWN` (R170, R162). -/
def execShutdown (s : State) : Host.Outcome State Fault Refusal := whenRunning (fun _ s => shutdown s) s

end Sys2Proof.Machine
end

