-- ==== Sys2Proof/Machine/Dispatch.lean ====
section
/-! DEFINITION. One meaning for each operation of the block (spec/30_encoding.md R87). -/

namespace Sys2Proof.Machine

def exec (i : Instr) (s : State) : Host.Outcome State Fault Refusal :=
  match i with
  | .init => Sys2Proof.Machine.execInit s
  | .iter => Sys2Proof.Machine.execIter s
  | .tick now => Sys2Proof.Machine.execTick now s
  | .deliver ie => Sys2Proof.Machine.execDeliver ie s
  | .render => Sys2Proof.Machine.execRender s
  | .shutdown => Sys2Proof.Machine.execShutdown s

end Sys2Proof.Machine
end

