-- ==== Sys2Proof/Machine/Fetch.lean ====
section
/-! DEFINITION. What a step runs next (spec/42_control_loop.md R162, spec/70_reset_and_hazards.md R240): a queued command
word, or, with none queued, the block's own next operation. -/

namespace Sys2Proof.Machine

/-- What a step finds to do. -/
inductive Fetched where
  /-- Run an operation in a state. -/
  | run (i : Instr) (s : State)
  /-- Refuse. -/
  | refuse (r : Refusal)
deriving DecidableEq, Repr

/-- The block's own next operation: `INIT` after power-on, `ITER` again and again while RUNNING, nothing after the end
(R162, R240, R171; log 10). -/
def autonomous (s : State) : Fetched :=
  match s.run with
  | .off => .run .init s
  | .running => .run .iter s
  | .exited _ => .refuse .runEnded

/-- A queued command word is decoded; a reserved one is refused and nothing changes (R91). -/
def fetchWord (w : CmdWord) (s : State) : Fetched :=
  match decode w with
  | .instr i => .run i s
  | .reservedOp => .refuse .reservedOp
  | .mustBeZero => .refuse .mustBeZero

/-- The next thing to do. -/
def fetchNext (s : State) : Fetched :=
  match s.cmds with
  | [] => autonomous s
  | w :: rest => fetchWord w { s with cmds := rest }

/-- A command word put in front of the queue. In OFF only `INIT` is admitted (R96), so before any other word the block is
started as a successful `INIT` leaves its registers (R160, R240; log 11). -/
def placeWord (w : CmdWord) (s : State) : State :=
  match s.run with
  | .off =>
    if w = encode .init then { s with cmds := w :: s.cmds } else { initRegisters s with cmds := w :: s.cmds }
  | .running => { s with cmds := w :: s.cmds }
  | .exited _ => { s with cmds := w :: s.cmds }

end Sys2Proof.Machine
end

