-- ==== Sys2Proof/Machine/Step.lean ====
section
/-! DEFINITION. One step of the machine, and the host's way to place a command word before it. -/

namespace Sys2Proof.Machine

/-- One step: one operation of the block (R13, R162). -/
def step (s : State) : Host.Outcome State Fault Refusal :=
  match fetchNext s with
  | .run i t => exec i t
  | .refuse r => .refused r

/-- `s` with a command word placed so that the very next step runs it (log 11). -/
def State.withFetchWord (s : State) (_nbits w : Nat) : State := placeWord (BitVec.ofNat 36 w) s

end Sys2Proof.Machine
end

