-- ==== Sys2Proof/Machine/Text.lean ====
section
/-! DEFINITION. The textual spelling of operations, of the pseudo-operations and of the environment's answers
(spec/30_encoding.md R97, R98), as lists of characters, and how a program is queued. Text plays no part in a step. -/

namespace Sys2Proof.Machine

/-- One line of a program: an operation and the answers written beside it (R97). -/
abbrev Line := Instr × Answers

/-! ## Characters and fields -/

def braceOpen : Char := Char.ofNat 123
def braceClose : Char := Char.ofNat 125

/-- A blank between the parts of a line. -/
def isBlank (c : Char) : Bool := c == ' ' || c == '\t'

/-- Text without the blanks on either side. -/
def trim (cs : List Char) : List Char := ((cs.dropWhile isBlank).reverse.dropWhile isBlank).reverse

/-- Text cut at each character that satisfies `p`. -/
def cutAt (p : Char → Bool) : List Char → List (List Char)
  | [] => [[]]
  | c :: cs =>
    if p c = true then [] :: cutAt p cs
    else
      match cutAt p cs with
      | [] => [[c]]
      | f :: fs => (c :: f) :: fs

/-- Text cut at each comma outside square brackets; `inside` says whether the text starts within them. -/
def cutCommas (inside : Bool) : List Char → List (List Char)
  | [] => [[]]
  | c :: cs =>
    if c == ',' && !inside then [] :: cutCommas inside cs
    else
      match cutCommas (if c == '[' then true else if c == ']' then false else inside) cs with
      | [] => [[c]]
      | f :: fs => (c :: f) :: fs

/-- The words of a text between blanks. -/
def wordsOf (cs : List Char) : List (List Char) := (cutAt isBlank cs).filter (fun w => !w.isEmpty)

/-! ## Numbers: unsigned decimal or `0x` hexadecimal (R97) -/

def digitVal (base : Nat) (c : Char) : Option Nat :=
  let n := c.toNat
  let v := if 48 ≤ n ∧ n ≤ 57 then n - 48 else if 65 ≤ n ∧ n ≤ 70 then n - 55 else if 97 ≤ n ∧ n ≤ 102 then n - 87 else base
  if v < base then some v else none

/-- The value of a string of digits after an accumulated one. -/
def digitsFrom (base : Nat) : Nat → List Char → Option Nat
  | acc, [] => some acc
  | acc, c :: cs => (digitVal base c).bind fun d => digitsFrom base (acc * base + d) cs

def parseNat : List Char → Option Nat
  | [] => none
  | '0' :: 'x' :: c :: cs => digitsFrom 16 0 (c :: cs)
  | c :: cs => digitsFrom 10 0 (c :: cs)

/-- A number that fits `n` bits (R97: less than `2^32` for a clock operand). -/
def parseBits (n : Nat) (cs : List Char) : Option (BitVec n) :=
  (parseNat cs).bind fun v => if v < 2 ^ n then some (BitVec.ofNat n v) else none

/-- `0` or `1`. -/
def parseFlag : List Char → Option Bool
  | ['0'] => some false
  | ['1'] => some true
  | _ => none

/-- `ok` or `fail`. -/
def parseGrant : List Char → Option Grant
  | ['o', 'k'] => some .ok
  | ['f', 'a', 'i', 'l'] => some .fail
  | _ => none

/-- Every element, or nothing where one is absent. -/
def allSome {α : Type} : List (Option α) → Option (List α)
  | [] => some []
  | none :: _ => none
  | some a :: as => (allSome as).map (a :: ·)

/-- `[b, b, ...]`: the bytes of the video region, as many as are written; their number is not held against `VRAM_LEN` (DESIGN
CHOICE, log 5). -/
def parseBytes (cs : List Char) : Option (List Byte) :=
  match cs, cs.getLast? with
  | '[' :: _, some ']' =>
    match trim cs.tail.dropLast with
    | [] => some []
    | inner => allSome ((cutCommas false inner).map fun f => parseBits 8 (trim f))
  | _, _ => none

/-! ## Answers (R97) -/

/-- One `name=value` pair added to the answers. -/
def addAnswer (a : Answers) (pair : List Char) : Option Answers :=
  let name := String.ofList (trim (pair.takeWhile (· ≠ '=')))
  let value := trim (pair.dropWhile (· ≠ '=')).tail
  if name = "quit" then (parseFlag value).map fun v => { a with quit := some v }
  else if name = "ie" then (parseFlag value).map fun v => { a with ie := some v }
  else if name = "hv" then (parseFlag value).map fun v => { a with hv := some v }
  else if name = "h" then (parseFlag value).map fun v => { a with h := some v }
  else if name = "op" then (parseBits 8 value).map fun v => { a with op := some v }
  else if name = "now" then (parseBits 32 value).map fun v => { a with now := some v }
  else if name = "create" then (parseGrant value).map fun v => { a with create := some v }
  else if name = "lock" then (parseGrant value).map fun v => { a with lock := some v }
  else if name = "init" then (parseGrant value).map fun v => { a with init := some v }
  else if name = "mem" then (parseBytes value).map fun v => { a with mem := v }
  else none

/-- The pairs of one pair of braces. -/
def addAnswers : Answers → List (List Char) → Option Answers
  | a, [] => some a
  | a, p :: ps => (addAnswer a p).bind fun b => addAnswers b ps

/-- What stands after the operation: nothing, or answers in braces. -/
def parseBraces (cs : List Char) : Option Answers :=
  match trim cs with
  | [] => some {}
  | c :: rest =>
    if c = braceOpen ∧ rest.getLast? = some braceClose then
      match trim rest.dropLast with
      | [] => some {}
      | inner => addAnswers {} (cutCommas false inner)
    else none

/-! ## Lines (R97, R98) -/

/-- The operations a line's text names: one operation, or a pseudo-operation's expansion. -/
def parseOp (cs : List Char) : Option (List Instr) :=
  match (wordsOf cs).map String.ofList, wordsOf cs with
  | ["INIT"], _ => some [.init]
  | ["ITER"], _ => some [.iter]
  | ["RENDER"], _ => some [.render]
  | ["SHUTDOWN"], _ => some [.shutdown]
  | ["TICK", _], [_, n] => (parseBits 32 n).map fun v => [.tick v]
  | ["DELIVER", _], [_, n] => (parseFlag n).map fun v => [.deliver v]
  | ["ITERS", _], [_, n] => (parseNat n).map fun v => (Pseudo.iters v).expand
  | "TD" :: _, _ :: args =>
    match (cutCommas false (args.map (fun a => ' ' :: a)).flatten).map trim with
    | [n, f] => (parseBits 32 n).bind fun v => (parseFlag f).map fun ie => (Pseudo.td v ie).expand
    | _ => none
  | _, _ => none

/-- A line: its operations, each with the line's answers (an answer an operation does not ask for has no effect); nothing for
a line that holds only a comment (log 18). -/
def parseLine (cs : List Char) : Option (List Line) :=
  let text := trim (cs.takeWhile (· ≠ ';'))
  if text = [] then some []
  else
    (parseOp (text.takeWhile (· ≠ braceOpen))).bind fun is =>
      (parseBraces (text.dropWhile (· ≠ braceOpen))).map fun a => is.map fun i => (i, a)

/-- A program's text, one line after another. -/
def parseProgram (lines : List (List Char)) : Option (List Line) := (allSome (lines.map parseLine)).map List.flatten

/-- A program queued behind what is queued already. -/
def State.load (s : State) (ls : List Line) : State :=
  { s with cmds := s.cmds ++ ls.map (fun l => encode l.1), script := s.script ++ ls.map (fun l => l.2) }

end Sys2Proof.Machine
end

