-- ==== Sys2Proof/Safety.lean ====
section
/-! DEFINITION. What the statements are about: which operations a run state admits (spec/30_encoding.md R96), the invariants
of the state (spec/10_state.md R24, R27, R28; spec/20_memory.md R50) and the order of the events of a trace
(spec/10_state.md R36, spec/41_video_decoder.md R140, spec/42_control_loop.md R163, spec/60_exceptions.md R204). -/

namespace Sys2Proof.Machine

/-- The table of R96. -/
def admitted : Run → Instr → Bool
  | .off,      .init => true
  | .off,      .iter => false
  | .off,      .tick _ => false
  | .off,      .deliver _ => false
  | .off,      .render => false
  | .off,      .shutdown => false
  | .running,  .init => false
  | .running,  .iter => true
  | .running,  .tick _ => true
  | .running,  .deliver _ => true
  | .running,  .render => true
  | .running,  .shutdown => true
  | .exited _, .init => false
  | .exited _, .iter => false
  | .exited _, .tick _ => false
  | .exited _, .deliver _ => false
  | .exited _, .render => false
  | .exited _, .shutdown => false

/-- A whole frame: `NPIX` words, each `WHITE` or `BLACK` (R28, R186). -/
def FrameOk (p : Params) (f : List Pixel) : Prop := f.length = p.npix ∧ ∀ v ∈ f, v = white ∨ v = black

/-- No byte is listed outside `0 .. MEM_SIZE-1` (R50). -/
def MemInside (p : Params) (m : Memory) : Prop := ∀ c ∈ m, c.1 < p.memSize

/-- What holds of the state between operations. -/
structure Inv (s : State) : Prop where
  /-- R24. -/
  latched  : s.latchedVector = s.nextVector
  /-- R27. -/
  unlocked : s.pbLocked = false
  /-- R28: `PB` exists only while created. -/
  absent   : s.pbCreated = false → s.pb = []
  /-- R28: every word is `WHITE` or `BLACK`. -/
  frame    : s.pbCreated = true → FrameOk s.cfg.params s.pb
  /-- R39, R204, R170: the buffer lives only while the block runs. -/
  released : s.run ≠ .running → s.pbCreated = false
  /-- The memory is in canonical form. -/
  memWf    : s.mem.wf = true
  /-- R50: no byte outside `0 .. MEM_SIZE-1`. -/
  memIn    : MemInside s.cfg.params s.mem

/-- The events an operation can begin with, other than `INIT`'s. -/
def opens : Event → Bool
  | .pollQuit | .create | .lock | .releasePixelBuffer | .releasePresentation => true
  | .initPresentation | .readIE | .exec _ | .fetch | .now | .unlock | .present _ | .report _ | .exit _ => false

/-- The events after which an operation can be complete while the block runs. -/
def closes : Event → Bool
  | .initPresentation | .now | .present _ => true
  | .pollQuit | .readIE | .exec _ | .fetch | .create | .lock | .unlock | .report _ | .releasePixelBuffer
  | .releasePresentation | .exit _ => false

/-- A release or what follows one: how a teardown begins (R170, R204). -/
def tearsDown : Event → Bool
  | .releasePixelBuffer | .releasePresentation => true
  | .initPresentation | .pollQuit | .readIE | .exec _ | .fetch | .now | .create | .lock | .unlock | .present _
  | .report _ | .exit _ => false

/-- An `Exec`, whatever its identifier. -/
def isExec : Event → Bool
  | .exec _ => true
  | .initPresentation | .pollQuit | .readIE | .fetch | .now | .create | .lock | .unlock | .present _ | .report _
  | .releasePixelBuffer | .releasePresentation | .exit _ => false

/-- A `Present`, whatever its frame. -/
def isPresent : Event → Bool
  | .present _ => true
  | .initPresentation | .pollQuit | .readIE | .exec _ | .fetch | .now | .create | .lock | .unlock | .report _
  | .releasePixelBuffer | .releasePresentation | .exit _ => false

/-- An event without what a `Present` shows. -/
def Event.withoutFrame : Event → Event
  | .present _ => .present []
  | .initPresentation => .initPresentation
  | .pollQuit => .pollQuit
  | .readIE => .readIE
  | .exec code => .exec code
  | .fetch => .fetch
  | .now => .now
  | .create => .create
  | .lock => .lock
  | .unlock => .unlock
  | .report kind => .report kind
  | .releasePixelBuffer => .releasePixelBuffer
  | .releasePresentation => .releasePresentation
  | .exit c => .exit c

/-- An `Exit`, whatever its status. -/
def isExit : Event → Bool
  | .exit _ => true
  | .initPresentation | .pollQuit | .readIE | .exec _ | .fetch | .now | .create | .lock | .unlock | .present _ | .report _
  | .releasePixelBuffer | .releasePresentation => false

/-- Which event may come right after which. A quit is polled first and a halt follows an `Exec` (R163); a created buffer is
locked at once (R140); a lock is released before anything else and the frame presented right after, or the lock failed and
is reported (R142, R143, R248); a report is followed by the teardown (R204), but for the startup failure's (R160); nothing
follows an `Exit` (R194). -/
def follows : Event → Event → Bool
  | .initPresentation, b => opens b || decide (b = .report .initFailure)
  | .pollQuit, b => decide (b = .readIE) || tearsDown b
  | .readIE, b => isExec b || decide (b = .fetch)
  | .exec _, b => decide (b = .fetch) || decide (b = .now) || tearsDown b
  | .fetch, b => isExec b
  | .now, b => opens b
  | .create, b => decide (b = .lock) || decide (b = .report .createFailure)
  | .lock, b => decide (b = .unlock) || decide (b = .report .lockFailure)
  | .unlock, b => isPresent b
  | .present _, b => opens b
  | .report .initFailure, b => decide (b = .exit exitInit)
  | .report .createFailure, b => decide (b = .releasePresentation)
  | .report .lockFailure, b => decide (b = .releasePixelBuffer)
  | .releasePixelBuffer, b => decide (b = .releasePresentation)
  | .releasePresentation, b => isExit b
  | .exit _, _ => false

/-- Every event may follow the one before it. -/
def ordered : List Event → Bool
  | [] => true
  | [_] => true
  | a :: b :: l => follows a b && ordered (b :: l)

/-- What holds of the trace between operations. -/
structure TraceOk (s : State) : Prop where
  /-- The events come in the order of the rules. -/
  inOrder : ordered s.trace = true
  /-- Nothing was issued before `INIT`. -/
  before  : s.run = .off → s.trace = []
  /-- While the block runs, the last operation is complete. -/
  during  : s.run = .running → ∀ e, s.trace.getLast? = some e → closes e = true
  /-- A run that ended ended with `Exit` of its status (R194). -/
  after   : ∀ c, s.run = .exited c → s.trace.getLast? = some (.exit c)
  /-- Every frame presented is a whole frame (R144, R186). -/
  frames  : ∀ f, .present f ∈ s.trace → FrameOk s.cfg.params f

/-- The events of a teardown before its `Exit`: the pixel buffer is released only if it exists (R191). -/
def releaseEvents : Bool → List Event
  | true => [.releasePixelBuffer, .releasePresentation]
  | false => [.releasePresentation]

/-- Successive samples each of which is a crossing after the one before it (R110). -/
def allCross (threshold : Nat) : Millis → List Millis → Bool
  | _, [] => true
  | last, now :: rest => crossing threshold now last && allCross threshold now rest

end Sys2Proof.Machine
end

