-- ==== Sys2Proof/Certificates/Slice0/Obligations.lean ====
section
/-! DEFINITION. The statements about the machine. In every one that gives a next state, `s.begun` is `s` with the operation
counted and its answers taken off the script (the model's own bookkeeping, log 3 and log 19), and a field that is not named
keeps its value: that is the operation's frame. -/

open Sys2Proof Sys2Proof.Machine

/-! ## Command words (spec/30_encoding.md) -/

/-- R99, which the spec derives from its decision D18 (log 13): the worked encodings decode to their operations, and the
refused ones to none. -/
def Obligations.WorkedEncodingsDecode : Prop :=
  decode 0x000000000#36 = .instr .init ∧
  decode 0x200000000#36 = .instr .iter ∧
  decode 0x400000000#36 = .instr (.tick 0#32) ∧
  decode 0x40000000B#36 = .instr (.tick 11#32) ∧
  decode 0x400000017#36 = .instr (.tick 23#32) ∧
  decode 0x400000023#36 = .instr (.tick 35#32) ∧
  decode 0x40000002F#36 = .instr (.tick 47#32) ∧
  decode 0x4FFFFFFFF#36 = .instr (.tick 0xFFFFFFFF#32) ∧
  decode 0x600000000#36 = .instr (.deliver false) ∧
  decode 0x700000000#36 = .instr (.deliver true) ∧
  decode 0x800000000#36 = .instr .render ∧
  decode 0xA00000000#36 = .instr .shutdown ∧
  decode 0xC00000000#36 = .reservedOp ∧
  decode 0xE00000000#36 = .reservedOp ∧
  decode 0x100000000#36 = .mustBeZero ∧
  decode 0x200000001#36 = .mustBeZero ∧
  decode 0x500000000#36 = .mustBeZero ∧
  decode 0x600000001#36 = .mustBeZero

/-- Decoding the word of any operation, with any operands, gives the operation back. -/
def Obligations.DecodeOfEncode : Prop :=
  ∀ i : Instr, i.wf = true → decode (encode i) = .instr i

/-- A word that decodes to an operation is the operation's word: no two words spell one operation. -/
def Obligations.EncodeOfDecode : Prop :=
  ∀ (w : CmdWord) (i : Instr), decode w = .instr i → encode i = w

/-- R89 (the spec's decision D18, log 13): the decoder, written from the fields of R88, reads a word as an operation of a row exactly when `CW & mask = match`,
and no word matches two rows. -/
def Obligations.DecodeAgreesWithTable : Prop :=
  (∀ (w : CmdWord) (r : OpRow), r ∈ opTable → (r.spelledBy w = true ↔ ∃ i, decode w = .instr i ∧ i.row = r)) ∧
  (∀ (w : CmdWord) (r q : OpRow), r ∈ opTable → q ∈ opTable → r.spelledBy w = true → q.spelledBy w = true → r = q)

/-- R91 (the spec's decision D19, log 13): a queued word whose `op` is 110 or 111, or with a 1 in a field that must be 0, is refused, by name; a refusal is no
next state, so no state changes and no event is emitted (log 20). Every other word is an operation. -/
def Obligations.ReservedWordsAreRefused : Prop :=
  ∀ (s : State) (w : CmdWord) (rest : List CmdWord), s.cmds = w :: rest →
    (cwOp w = 6#3 ∨ cwOp w = 7#3 → step s = .refused .reservedOp) ∧
    (cwOp w = 0#3 ∨ cwOp w = 1#3 ∨ cwOp w = 4#3 ∨ cwOp w = 5#3 → (cwIe w = true ∨ cwNow w ≠ 0#32) →
      step s = .refused .mustBeZero) ∧
    (cwOp w = 2#3 → cwIe w = true → step s = .refused .mustBeZero) ∧
    (cwOp w = 3#3 → cwNow w ≠ 0#32 → step s = .refused .mustBeZero) ∧
    (wordWf w = true ↔ ∃ i, decode w = .instr i)

/-! ## Steps and admission -/

/-- A step with a command word queued that decodes to an operation runs that operation, the word taken off the queue. The
queue is the model's own (log 10). -/
def Obligations.StepRunsQueuedOperation : Prop :=
  ∀ (s : State) (w : CmdWord) (rest : List CmdWord) (i : Instr), s.cmds = w :: rest → i.wf = true → decode w = .instr i →
    step s = exec i { s with cmds := rest }

/-- R162: with no command queued the block runs by itself: `ITER` while RUNNING, again and again, until the run has ended.
That it starts with `INIT` from OFF is R240's reset (log 10). -/
def Obligations.StepRunsByItself : Prop :=
  ∀ s : State, s.cmds = [] →
    (s.run = .running → step s = exec .iter s) ∧
    (s.run = .off → step s = exec .init s) ∧
    (∀ c, s.run = .exited c → step s = .refused .runEnded)

/-- R96 (the spec's decision D24, log 13): whether an operation has a step depends on `S.run` alone, by the table; one that is not admitted is refused. -/
def Obligations.AdmissionByRunState : Prop :=
  ∀ (i : Instr) (s : State),
    (admitted s.run i = true → ∃ t, exec i s = .next t) ∧
    (admitted s.run i = false → exec i s = .refused .notAdmitted)

/-- R29: `EXITED(c)` is terminal, whatever is asked and whatever is queued. -/
def Obligations.ExitedIsTerminal : Prop :=
  ∀ (s : State) (c : ExitStatus), s.run = .exited c →
    (∀ i, exec i s = .refused .notAdmitted) ∧ ∃ r, step s = .refused r

/-! ## INIT and SHUTDOWN (spec/42_control_loop.md) -/

/-- R160, R40: a successful `INIT` leaves the reset values (the spec's decision D8, log 13) and issues one event. -/
def Obligations.InitSetsResetValues : Prop :=
  ∀ s : State, s.run = .off → s.env.init = .ok →
    exec .init s = .next { s.begun with
      trace := s.trace ++ [.initPresentation]
      pending := false, nextVector := .v2, latchedVector := .v2, lastTick := 0#32
      pbCreated := false, pbLocked := false, pb := [], run := .running }

/-- R160: a failed `INIT` reports, exits with status 1 and releases nothing. The other registers keep what they held before
`INIT`, which no rule may read (log 8). -/
def Obligations.InitFailureExitsOne : Prop :=
  ∀ s : State, s.run = .off → s.env.init = .fail →
    exec .init s = .next { s.begun with
      trace := s.trace ++ [.initPresentation, .report .initFailure, .exit 1], run := .exited 1 }

/-- R170: `SHUTDOWN` releases the pixel buffer if it exists, then the presentation resources (in the order of the spec's
decision D15, log 13), and exits with status 0. -/
def Obligations.ShutdownReleasesAndExits : Prop :=
  ∀ s : State, s.run = .running →
    (s.pbCreated = true → exec .shutdown s = .next { s.begun with
      pbCreated := false, pb := [], run := .exited 0
      trace := s.trace ++ [.releasePixelBuffer, .releasePresentation, .exit 0] }) ∧
    (s.pbCreated = false → exec .shutdown s = .next { s.begun with
      run := .exited 0, trace := s.trace ++ [.releasePresentation, .exit 0] })

/-! ## TICK (spec/40_scheduler.md) -/

/-- R110, R122 (the spec's decisions D5 and D22, log 13): the elapsed time is the plain difference where the clock did not go back, and the difference plus `2^32`
where it did; a crossing is `elapsed >= THRESHOLD`, equality included. -/
def Obligations.ElapsedAndCrossing : Prop :=
  ∀ (threshold : Nat) (now last : Millis),
    (last.toNat ≤ now.toNat → (elapsed now last).toNat = now.toNat - last.toNat) ∧
    (now.toNat < last.toNat → (elapsed now last).toNat = now.toNat + 2 ^ 32 - last.toNat) ∧
    (crossing threshold now last = true ↔ threshold ≤ (elapsed now last).toNat)

/-- R112: a `TICK` that is not a crossing changes nothing. -/
def Obligations.TickBelowThresholdChangesNothing : Prop :=
  ∀ (s : State) (now : Millis), s.run = .running → (now - s.lastTick).toNat < s.cfg.params.threshold →
    exec (.tick now) s = .next s.begun

/-- R111: a crossing that makes `V1` next takes the time, toggles, snapshots and raises the request, without a render,
whether or not a request was pending. -/
def Obligations.TickMakesV1Next : Prop :=
  ∀ (s : State) (now : Millis), s.run = .running → s.nextVector = .v2 →
    s.cfg.params.threshold ≤ (now - s.lastTick).toNat →
    exec (.tick now) s = .next { s.begun with
      lastTick := now, nextVector := .v1, latchedVector := .v1, pending := true }

/-- R111, R140: a crossing that makes `V2` next renders before it raises the request. The premise on the buffer's length is
part of the invariant `Inv` (statement StepKeepsInvariant). -/
def Obligations.TickRendersWhenV2BecomesNext : Prop :=
  ∀ (s : State) (now : Millis), s.run = .running → s.nextVector = .v1 →
    s.cfg.params.threshold ≤ (now - s.lastTick).toNat →
    (s.pbCreated = true → s.pb.length = s.cfg.params.npix) →
    (s.pbCreated = true ∨ s.env.create = .ok) → s.env.lock = .ok →
    exec (.tick now) s = .next { s.begun with
      lastTick := now, nextVector := .v2, latchedVector := .v2, pending := true
      pbCreated := true, pbLocked := false, pb := decodeFrame s.cfg.params (region s.env s)
      trace := s.trace ++ (if s.pbCreated = true then [] else [.create]) ++
        [.lock, .unlock, .present (decodeFrame s.cfg.params (region s.env s))] }

/-- R123, by the fatal path of the spec's decision D15 (log 13): a fatal render ends the `TICK`: the time, the vector and the snapshot are new, `pending` is old, the run is over. -/
def Obligations.TickEndsWithFatalRender : Prop :=
  ∀ (s : State) (now : Millis), s.run = .running → s.nextVector = .v1 →
    s.cfg.params.threshold ≤ (now - s.lastTick).toNat →
    (s.pbCreated = false → s.env.create = .fail →
      exec (.tick now) s = .next { s.begun with
        lastTick := now, nextVector := .v2, latchedVector := .v2, run := .exited s.cfg.params.exitCreate
        trace := s.trace ++
          [.create, .report .createFailure, .releasePresentation, .exit s.cfg.params.exitCreate] }) ∧
    ((s.pbCreated = true ∨ s.env.create = .ok) → s.env.lock = .fail →
      exec (.tick now) s = .next { s.begun with
        lastTick := now, nextVector := .v2, latchedVector := .v2, run := .exited 2, pbCreated := false, pb := []
        trace := s.trace ++ (if s.pbCreated = true then [] else [.create]) ++
          [.lock, .report .lockFailure, .releasePixelBuffer, .releasePresentation, .exit 2] })

/-! ## DELIVER (spec/40_scheduler.md) -/

/-- R114: with a request pending and the engine enabled `DELIVER` clears the request and returns the snapshot, whatever
`next_vector` holds; if either condition is false it returns nothing and changes no register: a pending request stays. What
is returned stands in `result` (log 7). -/
def Obligations.DeliverReturnsSnapshotOrNothing : Prop :=
  ∀ (s : State) (ie : Bool), s.run = .running →
    (s.pending = true → ie = true →
      exec (.deliver ie) s = .next { s.begun with pending := false, result := some s.latchedVector }) ∧
    ((s.pending = false ∨ ie = false) → exec (.deliver ie) s = .next { s.begun with result := none })

/-- R116: a request outlives any number of `DELIVER 0` and is returned, with the vector recorded at the crossing, by the
first `DELIVER 1` after them. -/
def Obligations.MaskedRequestIsDeferred : Prop :=
  ∀ (n : Nat) (s : State) (rest : List CmdWord), s.run = .running → s.pending = true →
    s.cmds = List.replicate n (encode (.deliver false)) ++ encode (.deliver true) :: rest →
    (∃ u, Host.Core.run Sys2Proof.core n s = .next u ∧ u.pending = true ∧ (n ≠ 0 → u.result = none)) ∧
    (∃ t, Host.Core.run Sys2Proof.core (n + 1) s = .next t ∧ t.pending = false ∧ t.result = some s.latchedVector)

/-- R117, which the spec derives from R111 and R114: requests merge. Three crossings, the engine masked from after the first delivery until after the third crossing:
both deliveries return `V1`, the `V2` of the second crossing is never delivered, and the one frame is still rendered. -/
def Obligations.MergedRequestsRepeatAVector : Prop :=
  ∀ (s : State) (a b c : Millis) (rest : List CmdWord),
    s.run = .running → s.nextVector = .v2 → allCross s.cfg.params.threshold s.lastTick [a, b, c] = true →
    s.cmds = [encode (.tick a), encode (.deliver true), encode (.tick b), encode (.deliver false), encode (.tick c),
      encode (.deliver true)] ++ rest →
    (∀ x ∈ s.script.take 6, x.create = some .ok ∧ x.lock = some .ok) → 6 ≤ s.script.length →
    (∃ t, Host.Core.run Sys2Proof.core 2 s = .next t ∧ t.result = some .v1) ∧
    (∃ t, Host.Core.run Sys2Proof.core 4 s = .next t ∧ t.result = none ∧ t.pending = true ∧ t.latchedVector = .v2) ∧
    (∃ t, Host.Core.run Sys2Proof.core 6 s = .next t ∧ t.result = some .v1 ∧ t.pending = false ∧
      t.trace.countP isPresent = s.trace.countP isPresent + 1)

/-! ## RENDER (spec/41_video_decoder.md) -/

/-- R140: `RENDER` creates the buffer the first time, locks, writes the decode of the video region, unlocks and presents the
whole frame; no register of the scheduler and no byte of memory changes. -/
def Obligations.RenderPresentsDecodedFrame : Prop :=
  ∀ s : State, s.run = .running → (s.pbCreated = true → s.pb.length = s.cfg.params.npix) →
    (s.pbCreated = true ∨ s.env.create = .ok) → s.env.lock = .ok →
    exec .render s = .next { s.begun with
      pbCreated := true, pbLocked := false, pb := decodeFrame s.cfg.params (region s.env s)
      trace := s.trace ++ (if s.pbCreated = true then [] else [.create]) ++
        [.lock, .unlock, .present (decodeFrame s.cfg.params (region s.env s))] }

/-- R142, R202, by the fatal path of the spec's decision D15 (R204, log 13): a lock failure presents nothing, calls no `Unlock`, reports, releases the buffer, exits with status 2. -/
def Obligations.LockFailureIsFatal : Prop :=
  ∀ s : State, s.run = .running → (s.pbCreated = true ∨ s.env.create = .ok) → s.env.lock = .fail →
    exec .render s = .next { s.begun with
      run := .exited 2, pbCreated := false, pb := []
      trace := s.trace ++ (if s.pbCreated = true then [] else [.create]) ++
        [.lock, .report .lockFailure, .releasePixelBuffer, .releasePresentation, .exit 2] }

/-- R203, R204 (the spec's decisions D16 and D15, log 13): a creation failure at the first render exits with `EXIT_CREATE`; no lock is tried, no buffer released. -/
def Obligations.CreateFailureIsFatal : Prop :=
  ∀ s : State, s.run = .running → s.pbCreated = false → s.env.create = .fail →
    exec .render s = .next { s.begun with
      run := .exited s.cfg.params.exitCreate
      trace := s.trace ++ [.create, .report .createFailure, .releasePresentation, .exit s.cfg.params.exitCreate] }

/-- R133: the mapping, the row and the column it gives, that no subtraction goes below zero and no value passes `NPIX - 1`, and
that every address the decoder forms exists. -/
def Obligations.DecoderStaysInBounds : Prop :=
  ∀ (b : Board) (i : Nat), i < b.params.npix →
    destIndex b.params i = (b.params.h - 1 - i % b.params.h) * b.params.w + i / b.params.h ∧
    destIndex b.params i % b.params.w = i / b.params.h ∧
    destIndex b.params i / b.params.w = b.params.h - 1 - i % b.params.h ∧
    1 ≤ b.params.w ∧ 1 ≤ b.params.h ∧ i / b.params.h ≤ b.params.w - 1 ∧ i % b.params.h ≤ b.params.h - 1 ∧
    destIndex b.params i ≤ (b.params.h - 1) * b.params.w + (b.params.w - 1) ∧
    (b.params.h - 1) * b.params.w + (b.params.w - 1) + 1 = b.params.npix ∧
    b.params.h - 1 < b.params.npix ∧ (b.params.h - 1 - i % b.params.h) * b.params.w < b.params.npix ∧
    i / b.params.h < b.params.npix ∧ destIndex b.params i < b.params.npix ∧
    i / 8 < b.params.vramLen ∧ b.params.vramBase + i / 8 < b.params.memSize

/-- R134, which the spec derives from R133: the mapping is a bijection of the pixel indices onto themselves, with `src_index`
its inverse. -/
def Obligations.MappingIsBijection : Prop :=
  ∀ b : Board,
    (∀ k, srcIndex b.params k = (k % b.params.w) * b.params.h + (b.params.h - 1 - k / b.params.w)) ∧
    (∀ i, i < b.params.npix → destIndex b.params i < b.params.npix ∧ srcIndex b.params (destIndex b.params i) = i) ∧
    (∀ k, k < b.params.npix → srcIndex b.params k < b.params.npix ∧ destIndex b.params (srcIndex b.params k) = k)

/-- R137, R139, R144: the loop of pixel writes over an old buffer of `NPIX` words leaves exactly the pure function's frame:
every word is written, nothing of the old buffer survives. -/
def Obligations.DecodeLoopIsDecode : Prop :=
  ∀ (b : Board) (m : List Byte) (old : List Pixel), old.length = b.params.npix →
    writePixels b.params m old = decodeFrame b.params m

/-- R136: source bit `i` alone decides the word at `dest_index(i)`: `WHITE` for 1, `BLACK` for 0. -/
def Obligations.EachBitDecidesItsPixel : Prop :=
  ∀ (b : Board) (m : List Byte) (i : Nat), i < b.params.npix →
    (decodeFrame b.params m)[destIndex b.params i]? =
      some (if bitOf m i = true then white else black)

/-- R55: source bit `i` of the region `RENDER` reads is bit `i mod 8` of the byte `MemRead` gives at address
`VRAM_BASE + (i div 8)`. That byte is the one memory holds, unless the operation's answers name it (`mem`, R97): that the
named byte then stands in place of memory's is the model's choice (log 5). -/
def Obligations.RegionBitsComeFromMemory : Prop :=
  ∀ (e : Env) (s : State) (i : Nat), i < s.cfg.params.npix →
    (e.mem.length ≤ i / 8 →
      (bitOf (region e s) i = true ↔
        (s.mem.get (s.cfg.params.vramBase + i / 8) >>> (i % 8)) &&& 1#8 = 1#8)) ∧
    (∀ v, e.mem[i / 8]? = some v → (bitOf (region e s) i = true ↔ (v >>> (i % 8)) &&& 1#8 = 1#8))

/-- R146: a region with only bit `i` set decodes to one white pixel, at `dest_index(i)`, and all others black. -/
def Obligations.SingleBitIsOnePixel : Prop :=
  ∀ (b : Board) (i : Nat), i < b.params.npix →
    ∀ m, m = (List.replicate b.params.vramLen 0#8).set (i / 8) (1#8 <<< (i % 8)) →
      (decodeFrame b.params m)[destIndex b.params i]? = some white ∧
      ∀ k, k < b.params.npix → k ≠ destIndex b.params i → (decodeFrame b.params m)[k]? = some black

/-- R145: all-zero bytes decode to all `BLACK`, all-one bytes to all `WHITE`. -/
def Obligations.UniformRegionsDecodeUniformly : Prop :=
  ∀ b : Board,
    decodeFrame b.params (List.replicate b.params.vramLen 0x00#8) = List.replicate b.params.npix black ∧
    decodeFrame b.params (List.replicate b.params.vramLen 0xFF#8) = List.replicate b.params.npix white

/-- R138, which the spec derives from R133 and R82: where `H mod 8 = 0` the eight lanes of a byte land in one display column at eight consecutive rows going upward. -/
def Obligations.ByteLanesGoUpOneColumn : Prop :=
  ∀ (b : Board) (n j : Nat), b.params.h % 8 = 0 → n < b.params.vramLen → j < 8 →
    destIndex b.params (8 * n + j) + j * b.params.w = destIndex b.params (8 * n)

/-- R196, R57 (the spec's decision D11, log 17): pixel `k` of a byte-addressed surface; with the pitch `4 * W` it is at
`pointer + 4 * k`, and its four bytes stand there least significant first. -/
def Obligations.SurfaceIsLinear : Prop :=
  (∀ (b : Board) (pointer surfacePitch k : Nat),
    pixelAddr b.params pointer surfacePitch k = pointer + (k / b.params.w) * surfacePitch + (k % b.params.w) * 4) ∧
  (∀ (b : Board) (pointer k : Nat), pixelAddr b.params pointer (pitch b.params) k = pointer + 4 * k) ∧
  (∀ (f : List Pixel) (k j : Nat) (v : Pixel), f[k]? = some v → j < 4 →
    (surfaceBytes f)[4 * k + j]? = some (v.extractLsb' (8 * j) 8))

/-! ## ITER (spec/42_control_loop.md) -/

/-- R164 (the releases in the order of the spec's decision D15, log 13): a quit ends the iteration, and the run with status 0, before anything else: a pending request stays pending. -/
def Obligations.QuitEndsBeforeAnything : Prop :=
  ∀ s : State, s.run = .running → s.env.quit = true →
    exec .iter s = .next { s.begun with
      run := .exited 0, pbCreated := false, pb := if s.pbCreated = true then [] else s.pb
      trace := s.trace ++ [.pollQuit] ++ releaseEvents s.pbCreated ++ [.exit 0] }

/-- R167 (the spec's decision D14, log 13): a halt answered for the injected vector ends the run with status 0: no fetch, no second `Exec`, no `TICK`. -/
def Obligations.VectorHaltEndsRun : Prop :=
  ∀ s : State, s.run = .running → s.env.quit = false → s.pending = true → s.env.ie = true → s.env.hv = true →
    exec .iter s = .next { s.begun with
      run := .exited 0, pending := false, result := some s.latchedVector
      mem := engineWrites s.cfg.params s.mem s.env.vecWrites
      pbCreated := false, pb := if s.pbCreated = true then [] else s.pb
      trace := s.trace ++ [.pollQuit, .readIE, .exec (vecCode s.cfg.params s.latchedVector)] ++
        releaseEvents s.pbCreated ++ [.exit 0] }

/-- R167 (the spec's decision D14, log 13): a halt answered for the fetched operation ends the run with status 0: no `TICK`. -/
def Obligations.OperationHaltEndsRun : Prop :=
  ∀ s : State, s.run = .running → s.env.quit = false → s.env.h = true →
    ((s.pending = false ∨ s.env.ie = false) → exec .iter s = .next { s.begun with
      run := .exited 0, result := none
      mem := engineWrites s.cfg.params s.mem s.env.opWrites
      pbCreated := false, pb := if s.pbCreated = true then [] else s.pb
      trace := s.trace ++ [.pollQuit, .readIE, .fetch, .exec s.env.op] ++ releaseEvents s.pbCreated ++ [.exit 0] }) ∧
    (s.pending = true → s.env.ie = true → s.env.hv = false → exec .iter s = .next { s.begun with
      run := .exited 0, pending := false, result := some s.latchedVector
      mem := engineWrites s.cfg.params (engineWrites s.cfg.params s.mem s.env.vecWrites) s.env.opWrites
      pbCreated := false, pb := if s.pbCreated = true then [] else s.pb
      trace := s.trace ++ [.pollQuit, .readIE, .exec (vecCode s.cfg.params s.latchedVector), .fetch, .exec s.env.op] ++
        releaseEvents s.pbCreated ++ [.exit 0] })

/-- R163, R168: an iteration in which nothing is delivered: poll, read the flag, fetch, hand the identifier to the engine
unchanged, sample the clock, `TICK`. The second clause writes the state out where that `TICK` is no crossing. -/
def Obligations.IterationWithoutVector : Prop :=
  ∀ s : State, s.run = .running → s.env.quit = false → (s.pending = false ∨ s.env.ie = false) → s.env.h = false →
    exec .iter s = .next (tick s.env s.env.now { s.begun with
      result := none, mem := engineWrites s.cfg.params s.mem s.env.opWrites
      trace := s.trace ++ [.pollQuit, .readIE, .fetch, .exec s.env.op, .now] }) ∧
    ((s.env.now - s.lastTick).toNat < s.cfg.params.threshold →
      exec .iter s = .next { s.begun with
        result := none, mem := engineWrites s.cfg.params s.mem s.env.opWrites
        trace := s.trace ++ [.pollQuit, .readIE, .fetch, .exec s.env.op, .now] })

/-- R165, R166 (the spec's decision D13, log 13): an iteration that delivers hands the vector's identifier to the engine ahead of the fetched operation, and
fetches and executes one operation all the same. -/
def Obligations.IterationWithVector : Prop :=
  ∀ s : State, s.run = .running → s.env.quit = false → s.pending = true → s.env.ie = true → s.env.hv = false →
    s.env.h = false →
    exec .iter s = .next (tick s.env s.env.now { s.begun with
      pending := false, result := some s.latchedVector
      mem := engineWrites s.cfg.params (engineWrites s.cfg.params s.mem s.env.vecWrites) s.env.opWrites
      trace := s.trace ++
        [.pollQuit, .readIE, .exec (vecCode s.cfg.params s.latchedVector), .fetch, .exec s.env.op, .now] }) ∧
    ((s.env.now - s.lastTick).toNat < s.cfg.params.threshold →
      exec .iter s = .next { s.begun with
        pending := false, result := some s.latchedVector
        mem := engineWrites s.cfg.params (engineWrites s.cfg.params s.mem s.env.vecWrites) s.env.opWrites
        trace := s.trace ++
          [.pollQuit, .readIE, .exec (vecCode s.cfg.params s.latchedVector), .fetch, .exec s.env.op, .now] })

/-- R62, R168: a render inside an iteration shows memory as the engine's `Exec`s of that iteration left it: the fetched
operation's, and before it the vector's where one is delivered. The premises: no quit, no halt, an even crossing, a buffer to
be had and locked. -/
def Obligations.RenderSeesEngineWrites : Prop :=
  ∀ s : State, s.run = .running → s.env.quit = false →
    (s.pending = true → s.env.ie = true → s.env.hv = false) → s.env.h = false →
    s.nextVector = .v1 → s.cfg.params.threshold ≤ (s.env.now - s.lastTick).toNat →
    (s.pbCreated = true → s.pb.length = s.cfg.params.npix) →
    (s.pbCreated = true ∨ s.env.create = .ok) → s.env.lock = .ok →
    ∃ t, exec .iter s = .next t ∧ t.run = .running ∧ t.pending = true ∧
      t.mem = (if s.pending = true ∧ s.env.ie = true then
          engineWrites s.cfg.params (engineWrites s.cfg.params s.mem s.env.vecWrites) s.env.opWrites
        else engineWrites s.cfg.params s.mem s.env.opWrites) ∧
      t.pb = decodeFrame s.cfg.params (region s.env { s with mem := t.mem }) ∧
      t.trace.getLast? = some (.present t.pb)

/-- The counts of R172 for one iteration that runs to its end: one `PollQuit`, one `ReadIE`, one `Fetch`, one `Now`, one
`Exec` of a fetched operation and at most one of a vector, at most one `Present`. -/
def Obligations.IterationTransactionCounts : Prop :=
  ∀ s t : State, exec .iter s = .next t → t.run = .running →
    ∃ d, t.trace = s.trace ++ d ∧
      d.count .pollQuit = 1 ∧ d.count .readIE = 1 ∧ d.count .fetch = 1 ∧ d.count .now = 1 ∧
      d.countP isExec = (if s.pending = true ∧ s.env.ie = true then 2 else 1) ∧ d.countP isPresent ≤ 1

/-! ## Rules about the whole machine -/

/-- R113, R118, R119: over any number of `TICK`s each of which is a crossing, starting with `V2` next, the vectors made next
alternate `V1, V2, ...` and a frame is presented at every second crossing and nowhere else, while buffers can be had. -/
def Obligations.RenderEverySecondCrossing : Prop :=
  ∀ (nows : List Millis) (s : State) (rest : List CmdWord), s.run = .running → s.nextVector = .v2 →
    s.cmds = nows.map (fun n => encode (.tick n)) ++ rest →
    nows.length ≤ s.script.length →
    (∀ a ∈ s.script.take nows.length, a.create = some .ok ∧ a.lock = some .ok) →
    allCross s.cfg.params.threshold s.lastTick nows = true →
    ∃ t, Host.Core.run Sys2Proof.core nows.length s = .next t ∧ t.run = .running ∧
      t.nextVector = (if nows.length % 2 = 0 then .v2 else .v1) ∧
      t.trace.countP isPresent = s.trace.countP isPresent + nows.length / 2 ∧
      (nows ≠ [] → t.pending = true) ∧
      t.lastTick = nows.getLastD s.lastTick

/-- R22, R23, R25: apart from `INIT`, the vector, the snapshot and the time change only at a crossing, all three together,
and then as a crossing changes them; the samples are those of `TICK` and of `ITER`. -/
def Obligations.OnlyCrossingsMoveTheScheduler : Prop :=
  ∀ (i : Instr) (s t : State), exec i s = .next t → i ≠ .init →
    (t.nextVector = s.nextVector ∧ t.latchedVector = s.latchedVector ∧ t.lastTick = s.lastTick) ∨
    (∃ now, (i = .tick now ∨ i = .iter ∧ now = s.env.now) ∧
      s.cfg.params.threshold ≤ (now - s.lastTick).toNat ∧
      t.nextVector = s.nextVector.toggle ∧ t.latchedVector = t.nextVector ∧ t.lastTick = now)

/-- R21, R208: once the block runs, a pending request is cleared only by a `DELIVER` that finds the engine enabled, and that
`DELIVER` returned the snapshot. (After an `ITER` that delivers and then crosses, `pending` is set again.) -/
def Obligations.RequestClearedOnlyByDelivery : Prop :=
  ∀ (i : Instr) (s t : State), exec i s = .next t → s.run = .running → s.pending = true → t.pending = false →
    (i = .deliver true ∨ i = .iter ∧ s.env.ie = true) ∧ t.result = some s.latchedVector

/-- R38 (d): under the premise that the samples do not decrease, the time of the last crossing only moves forward. -/
def Obligations.TimestampMovesForward : Prop :=
  ∀ (i : Instr) (s t : State), exec i s = .next t → s.run = .running →
    (∀ now, i = .tick now → s.lastTick.toNat ≤ now.toNat) → (i = .iter → s.lastTick.toNat ≤ s.env.now.toNat) →
    s.lastTick.toNat ≤ t.lastTick.toNat

/-- R9: no operation and no step changes a parameter. -/
def Obligations.ParametersNeverChange : Prop :=
  ∀ s t : State, step s = .next t → t.cfg = s.cfg

/-- R51: the block never writes memory: a byte changes only in an `ITER`, and there only where the engine wrote it. -/
def Obligations.OnlyTheEngineWritesMemory : Prop :=
  ∀ (i : Instr) (s t : State) (a : Nat), exec i s = .next t →
    (i = .iter → ∀ c ∈ s.env.vecWrites ++ s.env.opWrites, c.1 ≠ a) → t.mem.get a = s.mem.get a

/-- What memory holds reaches nothing but the pixels. With any other memory an operation ends alike in every field but the
words of `pb` (as many of them) and memory itself, which the engine changes by the same writes; and the events of the trace
are the same ones, in the same order, but for the frame a `Present` carries. -/
def Obligations.MemoryReachesOnlyPixels : Prop :=
  ∀ (i : Instr) (s t : State) (m : Memory), exec i s = .next t →
    ∃ u, exec i { s with mem := m } = .next u ∧
      u.cfg = t.cfg ∧ u.run = t.run ∧ u.pending = t.pending ∧ u.nextVector = t.nextVector ∧
      u.latchedVector = t.latchedVector ∧ u.lastTick = t.lastTick ∧ u.pbCreated = t.pbCreated ∧
      u.pbLocked = t.pbLocked ∧ u.pb.length = t.pb.length ∧ u.result = t.result ∧ u.cmds = t.cmds ∧
      u.script = t.script ∧ u.opCount = t.opCount ∧
      u.trace.map Event.withoutFrame = t.trace.map Event.withoutFrame ∧
      ∃ ws, t.mem = engineWrites s.cfg.params s.mem ws ∧ u.mem = engineWrites s.cfg.params m ws

/-- R59: the block reads no byte outside the video region. With another memory that holds the same bytes in the region, an
operation other than `ITER` (in which the engine may read what it likes) does exactly the same. -/
def Obligations.OnlyTheVideoRegionIsRead : Prop :=
  ∀ (i : Instr) (s t : State) (m : Memory), i ≠ .iter → exec i s = .next t →
    (∀ a, s.cfg.params.vramBase ≤ a → a < s.cfg.params.vramBase + s.cfg.params.vramLen → m.get a = s.mem.get a) →
    exec i { s with mem := m } = .next { t with mem := m }

/-- Memory in canonical form (the model's own, log 4) reads back what was written, and everything else as before. -/
def Obligations.MemoryReadsBack : Prop :=
  ∀ (m : Memory) (a b : Nat) (v : Byte), m.wf = true →
    (m.set a v).get a = v ∧ (b ≠ a → (m.set a v).get b = m.get b)

/-- Two memories in canonical form that read alike everywhere are one memory. -/
def Obligations.CanonicalMemoryIsUnique : Prop :=
  ∀ m n : Memory, m.wf = true → n.wf = true → (∀ a, m.get a = n.get a) → m = n

/-- R84, R85, R83 (the spec's decisions D6 and D10, log 13): the two-bit codes of `DELIVER`'s result and of the exit status,
and the two pixel words. -/
def Obligations.OutputCodes : Prop :=
  resultCode none = 0b00#2 ∧ resultCode (some .v1) = 0b10#2 ∧ resultCode (some .v2) = 0b11#2 ∧
  (∀ r, resultCode r ≠ 0b01#2) ∧
  statusCode 0 = 0b00#2 ∧ statusCode 1 = 0b01#2 ∧ statusCode 2 = 0b10#2 ∧ (∀ c, statusCode c ≠ 0b11#2) ∧
  white = 0xFFFFFFFF#32 ∧ black = 0xFF000000#32

/-- The power-on state is OFF (R240) and meets both invariants. That the registers hold R20's reset column before `INIT` is the
model's choice (log 8), an empty trace too (log 6). -/
def Obligations.ResetMeetsInvariants : Prop :=
  State.reset.run = .off ∧ State.reset.pending = false ∧ State.reset.nextVector = .v2 ∧
  State.reset.latchedVector = .v2 ∧ State.reset.lastTick = 0#32 ∧ State.reset.pbCreated = false ∧
  State.reset.pbLocked = false ∧ Inv State.reset ∧ TraceOk State.reset

/-- From every state that meets it, a step keeps the invariant: the snapshot is the vector made next (R24), the buffer is
unlocked between operations (R27), absent or a whole frame (R28), gone once the run is over, and memory is canonical. -/
def Obligations.StepKeepsInvariant : Prop :=
  ∀ s t : State, Inv s → step s = .next t → Inv t

/-- From every state that meets both, a step keeps the order of the events: a lock is released and the frame presented at
once, or the failure is reported and everything torn down; nothing follows an `Exit`; every frame presented is whole. -/
def Obligations.StepKeepsTraceOrder : Prop :=
  ∀ s t : State, Inv s → TraceOk s → step s = .next t → TraceOk t
end

