-- ==== Sys2Proof/Laws/Memory.lean ====
section
/-! SUPPORT. The laws of memory: the canonical form is kept by every operation, and a write leaves other bytes alone. -/

namespace Sys2Proof.Machine

@[simp] theorem Memory.get_nil (a : Nat) : Memory.get [] a = Memory.unlisted := rfl

@[simp] theorem Memory.wf_nil : Memory.wf [] = true := rfl

/-- The canonical form of a list with a first entry. -/
theorem Memory.wf_cons {b : Nat} {u : Byte} {m : Memory} :
    Memory.wf ((b, u) :: m) = true ↔ (∀ c ∈ m, b < c.1) ∧ u ≠ Memory.unlisted ∧ Memory.wf m = true := by
  simp only [Memory.wf, Bool.and_eq_true, decide_eq_true_eq, List.pairwise_cons, List.all_cons]
  tauto

/-- Every entry of a memory after a write is the written one or was there before. -/
theorem Memory.mem_set {m : Memory} {a : Nat} {v : Byte} {c : Host.Cell} (h : c ∈ m.set a v) : c = (a, v) ∨ c ∈ m := by
  induction m with
  | nil =>
    simp only [Memory.set] at h
    split at h <;> simp_all
  | cons x m ih =>
    obtain ⟨b, u⟩ := x
    simp only [Memory.set] at h
    split_ifs at h <;> simp only [List.mem_cons] at h ⊢ <;> tauto

/-- A write keeps the canonical form. -/
theorem Memory.set_wf {m : Memory} (a : Nat) (v : Byte) (h : m.wf = true) : (m.set a v).wf = true := by
  induction m with
  | nil =>
    simp only [Memory.set]
    split
    · rfl
    · exact Memory.wf_cons.2 ⟨by simp, by assumption, rfl⟩
  | cons x m ih =>
    obtain ⟨b, u⟩ := x
    obtain ⟨hlt, hu, hm⟩ := Memory.wf_cons.1 h
    simp only [Memory.set]
    split_ifs with h1 h2 h3 h4
    · exact h
    · refine Memory.wf_cons.2 ⟨fun c hc => ?_, h2, h⟩
      rcases List.mem_cons.1 hc with rfl | hc
      · exact h1
      · exact Nat.lt_trans h1 (hlt c hc)
    · exact hm
    · exact Memory.wf_cons.2 ⟨by rw [h3]; exact hlt, h4, hm⟩
    · refine Memory.wf_cons.2 ⟨fun c hc => ?_, hu, ih hm⟩
      rcases Memory.mem_set hc with rfl | hc
      · show b < a
        omega
      · exact hlt c hc

/-- A write leaves every other byte as it was. -/
theorem Memory.get_set_ne (m : Memory) {a b : Nat} (v : Byte) (h : b ≠ a) : (m.set a v).get b = m.get b := by
  induction m with
  | nil =>
    simp only [Memory.set]
    split <;> simp [Memory.get, h]
  | cons x m ih =>
    obtain ⟨c, u⟩ := x
    simp only [Memory.set]
    split_ifs with h1 h2 h3 h4
    · rfl
    · simp [Memory.get, h]
    · have : b ≠ c := by omega
      simp [Memory.get, this]
    · have : b ≠ c := by omega
      simp [Memory.get, h, this]
    · simp [Memory.get, ih]

/-- An address below every entry is unlisted. -/
theorem Memory.get_of_lt {m : Memory} {a : Nat} (h : ∀ c ∈ m, a < c.1) : m.get a = Memory.unlisted := by
  induction m with
  | nil => rfl
  | cons x m ih =>
    obtain ⟨b, u⟩ := x
    have hb : a ≠ b := Nat.ne_of_lt (h (b, u) (by simp))
    simp only [Memory.get, hb, if_false]
    exact ih fun c hc => h c (List.mem_cons_of_mem _ hc)

/-! ## The engine's writes (R181) -/

@[simp] theorem engineWrites_nil (p : Params) (m : Memory) : engineWrites p m [] = m := rfl

/-- The engine's writes, one at a time. -/
theorem engineWrites_cons (p : Params) (m : Memory) (c : Host.Cell) (ws : List Host.Cell) :
    engineWrites p m (c :: ws) = engineWrites p (if c.1 < p.memSize then m.set c.1 c.2 else m) ws := rfl

/-- Two runs of writes are one run. -/
theorem engineWrites_append (p : Params) (m : Memory) (vs ws : List Host.Cell) :
    engineWrites p m (vs ++ ws) = engineWrites p (engineWrites p m vs) ws := List.foldl_append

/-- The engine's writes keep the canonical form. -/
theorem engineWrites_wf (p : Params) {m : Memory} (ws : List Host.Cell) (h : m.wf = true) :
    (engineWrites p m ws).wf = true := by
  induction ws generalizing m with
  | nil => exact h
  | cons c ws ih =>
    rw [engineWrites_cons]
    apply ih
    split
    · exact Memory.set_wf _ _ h
    · exact h

/-- The engine's writes land inside memory. -/
theorem engineWrites_inside (p : Params) {m : Memory} (ws : List Host.Cell) (h : MemInside p m) :
    MemInside p (engineWrites p m ws) := by
  induction ws generalizing m with
  | nil => exact h
  | cons d ws ih =>
    rw [engineWrites_cons]
    apply ih
    split
    · intro c hc
      rcases Memory.mem_set hc with rfl | hc
      · assumption
      · exact h c hc
    · exact h

/-- A byte the engine does not write stays as it was. -/
theorem engineWrites_get (p : Params) (m : Memory) (ws : List Host.Cell) (a : Nat) (h : ∀ c ∈ ws, c.1 ≠ a) :
    (engineWrites p m ws).get a = m.get a := by
  induction ws generalizing m with
  | nil => rfl
  | cons c ws ih =>
    rw [engineWrites_cons, ih _ fun d hd => h d (List.mem_cons_of_mem _ hd)]
    split
    · exact Memory.get_set_ne _ _ (Ne.symm (h c (by simp)))
    · rfl

end Sys2Proof.Machine
end

