-- ==== Sys2Proof/Laws/State.lean ====
section
/-! SUPPORT. What each named update of the state does to each field, so that no proof unfolds a record update. -/

namespace Sys2Proof.Machine

/-! ## State.begun -/

@[simp] theorem State.begun_cfg (s : State) : s.begun.cfg = s.cfg := rfl
@[simp] theorem State.begun_run (s : State) : s.begun.run = s.run := rfl
@[simp] theorem State.begun_pending (s : State) : s.begun.pending = s.pending := rfl
@[simp] theorem State.begun_nextVector (s : State) : s.begun.nextVector = s.nextVector := rfl
@[simp] theorem State.begun_latchedVector (s : State) : s.begun.latchedVector = s.latchedVector := rfl
@[simp] theorem State.begun_lastTick (s : State) : s.begun.lastTick = s.lastTick := rfl
@[simp] theorem State.begun_pbCreated (s : State) : s.begun.pbCreated = s.pbCreated := rfl
@[simp] theorem State.begun_pbLocked (s : State) : s.begun.pbLocked = s.pbLocked := rfl
@[simp] theorem State.begun_pb (s : State) : s.begun.pb = s.pb := rfl
@[simp] theorem State.begun_mem (s : State) : s.begun.mem = s.mem := rfl
@[simp] theorem State.begun_trace (s : State) : s.begun.trace = s.trace := rfl
@[simp] theorem State.begun_result (s : State) : s.begun.result = s.result := rfl
@[simp] theorem State.begun_cmds (s : State) : s.begun.cmds = s.cmds := rfl
@[simp] theorem State.begun_script (s : State) : s.begun.script = s.script.tail := rfl
@[simp] theorem State.begun_opCount (s : State) : s.begun.opCount = s.opCount + 1 := rfl

/-! ## State.emit -/

@[simp] theorem State.emit_cfg (s : State) (e : Event) : (s.emit e).cfg = s.cfg := rfl
@[simp] theorem State.emit_run (s : State) (e : Event) : (s.emit e).run = s.run := rfl
@[simp] theorem State.emit_pending (s : State) (e : Event) : (s.emit e).pending = s.pending := rfl
@[simp] theorem State.emit_nextVector (s : State) (e : Event) : (s.emit e).nextVector = s.nextVector := rfl
@[simp] theorem State.emit_latchedVector (s : State) (e : Event) : (s.emit e).latchedVector = s.latchedVector := rfl
@[simp] theorem State.emit_lastTick (s : State) (e : Event) : (s.emit e).lastTick = s.lastTick := rfl
@[simp] theorem State.emit_pbCreated (s : State) (e : Event) : (s.emit e).pbCreated = s.pbCreated := rfl
@[simp] theorem State.emit_pbLocked (s : State) (e : Event) : (s.emit e).pbLocked = s.pbLocked := rfl
@[simp] theorem State.emit_pb (s : State) (e : Event) : (s.emit e).pb = s.pb := rfl
@[simp] theorem State.emit_mem (s : State) (e : Event) : (s.emit e).mem = s.mem := rfl
@[simp] theorem State.emit_trace (s : State) (e : Event) : (s.emit e).trace = s.trace ++ [e] := rfl
@[simp] theorem State.emit_result (s : State) (e : Event) : (s.emit e).result = s.result := rfl
@[simp] theorem State.emit_cmds (s : State) (e : Event) : (s.emit e).cmds = s.cmds := rfl
@[simp] theorem State.emit_script (s : State) (e : Event) : (s.emit e).script = s.script := rfl
@[simp] theorem State.emit_opCount (s : State) (e : Event) : (s.emit e).opCount = s.opCount := rfl

/-! ## execEngine -/

@[simp] theorem execEngine_cfg (code : OpId) (ws : List Host.Cell) (s : State) : (execEngine code ws s).cfg = s.cfg := rfl
@[simp] theorem execEngine_run (code : OpId) (ws : List Host.Cell) (s : State) : (execEngine code ws s).run = s.run := rfl
@[simp] theorem execEngine_pending (code : OpId) (ws : List Host.Cell) (s : State) : (execEngine code ws s).pending = s.pending := rfl
@[simp] theorem execEngine_nextVector (code : OpId) (ws : List Host.Cell) (s : State) : (execEngine code ws s).nextVector = s.nextVector := rfl
@[simp] theorem execEngine_latchedVector (code : OpId) (ws : List Host.Cell) (s : State) : (execEngine code ws s).latchedVector = s.latchedVector := rfl
@[simp] theorem execEngine_lastTick (code : OpId) (ws : List Host.Cell) (s : State) : (execEngine code ws s).lastTick = s.lastTick := rfl
@[simp] theorem execEngine_pbCreated (code : OpId) (ws : List Host.Cell) (s : State) : (execEngine code ws s).pbCreated = s.pbCreated := rfl
@[simp] theorem execEngine_pbLocked (code : OpId) (ws : List Host.Cell) (s : State) : (execEngine code ws s).pbLocked = s.pbLocked := rfl
@[simp] theorem execEngine_pb (code : OpId) (ws : List Host.Cell) (s : State) : (execEngine code ws s).pb = s.pb := rfl
@[simp] theorem execEngine_mem (code : OpId) (ws : List Host.Cell) (s : State) : (execEngine code ws s).mem = engineWrites s.cfg.params s.mem ws := rfl
@[simp] theorem execEngine_trace (code : OpId) (ws : List Host.Cell) (s : State) : (execEngine code ws s).trace = s.trace ++ [.exec code] := rfl
@[simp] theorem execEngine_result (code : OpId) (ws : List Host.Cell) (s : State) : (execEngine code ws s).result = s.result := rfl
@[simp] theorem execEngine_cmds (code : OpId) (ws : List Host.Cell) (s : State) : (execEngine code ws s).cmds = s.cmds := rfl
@[simp] theorem execEngine_script (code : OpId) (ws : List Host.Cell) (s : State) : (execEngine code ws s).script = s.script := rfl
@[simp] theorem execEngine_opCount (code : OpId) (ws : List Host.Cell) (s : State) : (execEngine code ws s).opCount = s.opCount := rfl

/-! ## createBuffer -/

@[simp] theorem createBuffer_cfg (s : State) : (createBuffer s).cfg = s.cfg := rfl
@[simp] theorem createBuffer_run (s : State) : (createBuffer s).run = s.run := rfl
@[simp] theorem createBuffer_pending (s : State) : (createBuffer s).pending = s.pending := rfl
@[simp] theorem createBuffer_nextVector (s : State) : (createBuffer s).nextVector = s.nextVector := rfl
@[simp] theorem createBuffer_latchedVector (s : State) : (createBuffer s).latchedVector = s.latchedVector := rfl
@[simp] theorem createBuffer_lastTick (s : State) : (createBuffer s).lastTick = s.lastTick := rfl
@[simp] theorem createBuffer_pbCreated (s : State) : (createBuffer s).pbCreated = true := rfl
@[simp] theorem createBuffer_pbLocked (s : State) : (createBuffer s).pbLocked = s.pbLocked := rfl
@[simp] theorem createBuffer_pb (s : State) : (createBuffer s).pb = (List.range s.cfg.params.npix).map (Config.freePixel s.opCount) := rfl
@[simp] theorem createBuffer_mem (s : State) : (createBuffer s).mem = s.mem := rfl
@[simp] theorem createBuffer_trace (s : State) : (createBuffer s).trace = s.trace := rfl
@[simp] theorem createBuffer_result (s : State) : (createBuffer s).result = s.result := rfl
@[simp] theorem createBuffer_cmds (s : State) : (createBuffer s).cmds = s.cmds := rfl
@[simp] theorem createBuffer_script (s : State) : (createBuffer s).script = s.script := rfl
@[simp] theorem createBuffer_opCount (s : State) : (createBuffer s).opCount = s.opCount := rfl

/-! ## lockBuffer -/

@[simp] theorem lockBuffer_cfg (s : State) : (lockBuffer s).cfg = s.cfg := rfl
@[simp] theorem lockBuffer_run (s : State) : (lockBuffer s).run = s.run := rfl
@[simp] theorem lockBuffer_pending (s : State) : (lockBuffer s).pending = s.pending := rfl
@[simp] theorem lockBuffer_nextVector (s : State) : (lockBuffer s).nextVector = s.nextVector := rfl
@[simp] theorem lockBuffer_latchedVector (s : State) : (lockBuffer s).latchedVector = s.latchedVector := rfl
@[simp] theorem lockBuffer_lastTick (s : State) : (lockBuffer s).lastTick = s.lastTick := rfl
@[simp] theorem lockBuffer_pbCreated (s : State) : (lockBuffer s).pbCreated = s.pbCreated := rfl
@[simp] theorem lockBuffer_pbLocked (s : State) : (lockBuffer s).pbLocked = true := rfl
@[simp] theorem lockBuffer_pb (s : State) : (lockBuffer s).pb = s.pb := rfl
@[simp] theorem lockBuffer_mem (s : State) : (lockBuffer s).mem = s.mem := rfl
@[simp] theorem lockBuffer_trace (s : State) : (lockBuffer s).trace = s.trace := rfl
@[simp] theorem lockBuffer_result (s : State) : (lockBuffer s).result = s.result := rfl
@[simp] theorem lockBuffer_cmds (s : State) : (lockBuffer s).cmds = s.cmds := rfl
@[simp] theorem lockBuffer_script (s : State) : (lockBuffer s).script = s.script := rfl
@[simp] theorem lockBuffer_opCount (s : State) : (lockBuffer s).opCount = s.opCount := rfl

/-! ## unlockBuffer -/

@[simp] theorem unlockBuffer_cfg (s : State) : (unlockBuffer s).cfg = s.cfg := rfl
@[simp] theorem unlockBuffer_run (s : State) : (unlockBuffer s).run = s.run := rfl
@[simp] theorem unlockBuffer_pending (s : State) : (unlockBuffer s).pending = s.pending := rfl
@[simp] theorem unlockBuffer_nextVector (s : State) : (unlockBuffer s).nextVector = s.nextVector := rfl
@[simp] theorem unlockBuffer_latchedVector (s : State) : (unlockBuffer s).latchedVector = s.latchedVector := rfl
@[simp] theorem unlockBuffer_lastTick (s : State) : (unlockBuffer s).lastTick = s.lastTick := rfl
@[simp] theorem unlockBuffer_pbCreated (s : State) : (unlockBuffer s).pbCreated = s.pbCreated := rfl
@[simp] theorem unlockBuffer_pbLocked (s : State) : (unlockBuffer s).pbLocked = false := rfl
@[simp] theorem unlockBuffer_pb (s : State) : (unlockBuffer s).pb = s.pb := rfl
@[simp] theorem unlockBuffer_mem (s : State) : (unlockBuffer s).mem = s.mem := rfl
@[simp] theorem unlockBuffer_trace (s : State) : (unlockBuffer s).trace = s.trace ++ [.unlock] := rfl
@[simp] theorem unlockBuffer_result (s : State) : (unlockBuffer s).result = s.result := rfl
@[simp] theorem unlockBuffer_cmds (s : State) : (unlockBuffer s).cmds = s.cmds := rfl
@[simp] theorem unlockBuffer_script (s : State) : (unlockBuffer s).script = s.script := rfl
@[simp] theorem unlockBuffer_opCount (s : State) : (unlockBuffer s).opCount = s.opCount := rfl

/-! ## presentFrame -/

@[simp] theorem presentFrame_cfg (s : State) : (presentFrame s).cfg = s.cfg := rfl
@[simp] theorem presentFrame_run (s : State) : (presentFrame s).run = s.run := rfl
@[simp] theorem presentFrame_pending (s : State) : (presentFrame s).pending = s.pending := rfl
@[simp] theorem presentFrame_nextVector (s : State) : (presentFrame s).nextVector = s.nextVector := rfl
@[simp] theorem presentFrame_latchedVector (s : State) : (presentFrame s).latchedVector = s.latchedVector := rfl
@[simp] theorem presentFrame_lastTick (s : State) : (presentFrame s).lastTick = s.lastTick := rfl
@[simp] theorem presentFrame_pbCreated (s : State) : (presentFrame s).pbCreated = s.pbCreated := rfl
@[simp] theorem presentFrame_pbLocked (s : State) : (presentFrame s).pbLocked = s.pbLocked := rfl
@[simp] theorem presentFrame_pb (s : State) : (presentFrame s).pb = s.pb := rfl
@[simp] theorem presentFrame_mem (s : State) : (presentFrame s).mem = s.mem := rfl
@[simp] theorem presentFrame_trace (s : State) : (presentFrame s).trace = s.trace ++ [.present s.pb] := rfl
@[simp] theorem presentFrame_result (s : State) : (presentFrame s).result = s.result := rfl
@[simp] theorem presentFrame_cmds (s : State) : (presentFrame s).cmds = s.cmds := rfl
@[simp] theorem presentFrame_script (s : State) : (presentFrame s).script = s.script := rfl
@[simp] theorem presentFrame_opCount (s : State) : (presentFrame s).opCount = s.opCount := rfl

/-! ## releaseBuffer -/

@[simp] theorem releaseBuffer_cfg (s : State) : (releaseBuffer s).cfg = s.cfg := rfl
@[simp] theorem releaseBuffer_run (s : State) : (releaseBuffer s).run = s.run := rfl
@[simp] theorem releaseBuffer_pending (s : State) : (releaseBuffer s).pending = s.pending := rfl
@[simp] theorem releaseBuffer_nextVector (s : State) : (releaseBuffer s).nextVector = s.nextVector := rfl
@[simp] theorem releaseBuffer_latchedVector (s : State) : (releaseBuffer s).latchedVector = s.latchedVector := rfl
@[simp] theorem releaseBuffer_lastTick (s : State) : (releaseBuffer s).lastTick = s.lastTick := rfl
@[simp] theorem releaseBuffer_pbCreated (s : State) : (releaseBuffer s).pbCreated = false := rfl
@[simp] theorem releaseBuffer_pbLocked (s : State) : (releaseBuffer s).pbLocked = s.pbLocked := rfl
@[simp] theorem releaseBuffer_pb (s : State) : (releaseBuffer s).pb = [] := rfl
@[simp] theorem releaseBuffer_mem (s : State) : (releaseBuffer s).mem = s.mem := rfl
@[simp] theorem releaseBuffer_trace (s : State) : (releaseBuffer s).trace = s.trace ++ [.releasePixelBuffer] := rfl
@[simp] theorem releaseBuffer_result (s : State) : (releaseBuffer s).result = s.result := rfl
@[simp] theorem releaseBuffer_cmds (s : State) : (releaseBuffer s).cmds = s.cmds := rfl
@[simp] theorem releaseBuffer_script (s : State) : (releaseBuffer s).script = s.script := rfl
@[simp] theorem releaseBuffer_opCount (s : State) : (releaseBuffer s).opCount = s.opCount := rfl

/-! ## exitWith -/

@[simp] theorem exitWith_cfg (c : ExitStatus) (s : State) : (exitWith c s).cfg = s.cfg := rfl
@[simp] theorem exitWith_run (c : ExitStatus) (s : State) : (exitWith c s).run = .exited c := rfl
@[simp] theorem exitWith_pending (c : ExitStatus) (s : State) : (exitWith c s).pending = s.pending := rfl
@[simp] theorem exitWith_nextVector (c : ExitStatus) (s : State) : (exitWith c s).nextVector = s.nextVector := rfl
@[simp] theorem exitWith_latchedVector (c : ExitStatus) (s : State) : (exitWith c s).latchedVector = s.latchedVector := rfl
@[simp] theorem exitWith_lastTick (c : ExitStatus) (s : State) : (exitWith c s).lastTick = s.lastTick := rfl
@[simp] theorem exitWith_pbCreated (c : ExitStatus) (s : State) : (exitWith c s).pbCreated = s.pbCreated := rfl
@[simp] theorem exitWith_pbLocked (c : ExitStatus) (s : State) : (exitWith c s).pbLocked = s.pbLocked := rfl
@[simp] theorem exitWith_pb (c : ExitStatus) (s : State) : (exitWith c s).pb = s.pb := rfl
@[simp] theorem exitWith_mem (c : ExitStatus) (s : State) : (exitWith c s).mem = s.mem := rfl
@[simp] theorem exitWith_trace (c : ExitStatus) (s : State) : (exitWith c s).trace = s.trace ++ [.exit c] := rfl
@[simp] theorem exitWith_result (c : ExitStatus) (s : State) : (exitWith c s).result = s.result := rfl
@[simp] theorem exitWith_cmds (c : ExitStatus) (s : State) : (exitWith c s).cmds = s.cmds := rfl
@[simp] theorem exitWith_script (c : ExitStatus) (s : State) : (exitWith c s).script = s.script := rfl
@[simp] theorem exitWith_opCount (c : ExitStatus) (s : State) : (exitWith c s).opCount = s.opCount := rfl

/-! ## latchCrossing -/

@[simp] theorem latchCrossing_cfg (now : Millis) (s : State) : (latchCrossing now s).cfg = s.cfg := rfl
@[simp] theorem latchCrossing_run (now : Millis) (s : State) : (latchCrossing now s).run = s.run := rfl
@[simp] theorem latchCrossing_pending (now : Millis) (s : State) : (latchCrossing now s).pending = s.pending := rfl
@[simp] theorem latchCrossing_nextVector (now : Millis) (s : State) : (latchCrossing now s).nextVector = s.nextVector.toggle := rfl
@[simp] theorem latchCrossing_latchedVector (now : Millis) (s : State) : (latchCrossing now s).latchedVector = s.nextVector.toggle := rfl
@[simp] theorem latchCrossing_lastTick (now : Millis) (s : State) : (latchCrossing now s).lastTick = now := rfl
@[simp] theorem latchCrossing_pbCreated (now : Millis) (s : State) : (latchCrossing now s).pbCreated = s.pbCreated := rfl
@[simp] theorem latchCrossing_pbLocked (now : Millis) (s : State) : (latchCrossing now s).pbLocked = s.pbLocked := rfl
@[simp] theorem latchCrossing_pb (now : Millis) (s : State) : (latchCrossing now s).pb = s.pb := rfl
@[simp] theorem latchCrossing_mem (now : Millis) (s : State) : (latchCrossing now s).mem = s.mem := rfl
@[simp] theorem latchCrossing_trace (now : Millis) (s : State) : (latchCrossing now s).trace = s.trace := rfl
@[simp] theorem latchCrossing_result (now : Millis) (s : State) : (latchCrossing now s).result = s.result := rfl
@[simp] theorem latchCrossing_cmds (now : Millis) (s : State) : (latchCrossing now s).cmds = s.cmds := rfl
@[simp] theorem latchCrossing_script (now : Millis) (s : State) : (latchCrossing now s).script = s.script := rfl
@[simp] theorem latchCrossing_opCount (now : Millis) (s : State) : (latchCrossing now s).opCount = s.opCount := rfl

/-! ## raiseRequest -/

@[simp] theorem raiseRequest_cfg (s : State) : (raiseRequest s).cfg = s.cfg := rfl
@[simp] theorem raiseRequest_run (s : State) : (raiseRequest s).run = s.run := rfl
@[simp] theorem raiseRequest_pending (s : State) : (raiseRequest s).pending = true := rfl
@[simp] theorem raiseRequest_nextVector (s : State) : (raiseRequest s).nextVector = s.nextVector := rfl
@[simp] theorem raiseRequest_latchedVector (s : State) : (raiseRequest s).latchedVector = s.latchedVector := rfl
@[simp] theorem raiseRequest_lastTick (s : State) : (raiseRequest s).lastTick = s.lastTick := rfl
@[simp] theorem raiseRequest_pbCreated (s : State) : (raiseRequest s).pbCreated = s.pbCreated := rfl
@[simp] theorem raiseRequest_pbLocked (s : State) : (raiseRequest s).pbLocked = s.pbLocked := rfl
@[simp] theorem raiseRequest_pb (s : State) : (raiseRequest s).pb = s.pb := rfl
@[simp] theorem raiseRequest_mem (s : State) : (raiseRequest s).mem = s.mem := rfl
@[simp] theorem raiseRequest_trace (s : State) : (raiseRequest s).trace = s.trace := rfl
@[simp] theorem raiseRequest_result (s : State) : (raiseRequest s).result = s.result := rfl
@[simp] theorem raiseRequest_cmds (s : State) : (raiseRequest s).cmds = s.cmds := rfl
@[simp] theorem raiseRequest_script (s : State) : (raiseRequest s).script = s.script := rfl
@[simp] theorem raiseRequest_opCount (s : State) : (raiseRequest s).opCount = s.opCount := rfl

/-! ## initRegisters -/

@[simp] theorem initRegisters_cfg (s : State) : (initRegisters s).cfg = s.cfg := rfl
@[simp] theorem initRegisters_run (s : State) : (initRegisters s).run = .running := rfl
@[simp] theorem initRegisters_pending (s : State) : (initRegisters s).pending = false := rfl
@[simp] theorem initRegisters_nextVector (s : State) : (initRegisters s).nextVector = .v2 := rfl
@[simp] theorem initRegisters_latchedVector (s : State) : (initRegisters s).latchedVector = .v2 := rfl
@[simp] theorem initRegisters_lastTick (s : State) : (initRegisters s).lastTick = 0#32 := rfl
@[simp] theorem initRegisters_pbCreated (s : State) : (initRegisters s).pbCreated = false := rfl
@[simp] theorem initRegisters_pbLocked (s : State) : (initRegisters s).pbLocked = false := rfl
@[simp] theorem initRegisters_pb (s : State) : (initRegisters s).pb = [] := rfl
@[simp] theorem initRegisters_mem (s : State) : (initRegisters s).mem = s.mem := rfl
@[simp] theorem initRegisters_trace (s : State) : (initRegisters s).trace = s.trace := rfl
@[simp] theorem initRegisters_result (s : State) : (initRegisters s).result = s.result := rfl
@[simp] theorem initRegisters_cmds (s : State) : (initRegisters s).cmds = s.cmds := rfl
@[simp] theorem initRegisters_script (s : State) : (initRegisters s).script = s.script := rfl
@[simp] theorem initRegisters_opCount (s : State) : (initRegisters s).opCount = s.opCount := rfl

/-! ## releaseAll -/

@[simp] theorem releaseAll_cfg (s : State) : (releaseAll s).cfg = s.cfg := by
  by_cases h : s.pbCreated = true <;> simp [releaseAll, h]
@[simp] theorem releaseAll_run (s : State) : (releaseAll s).run = s.run := by
  by_cases h : s.pbCreated = true <;> simp [releaseAll, h]
@[simp] theorem releaseAll_pending (s : State) : (releaseAll s).pending = s.pending := by
  by_cases h : s.pbCreated = true <;> simp [releaseAll, h]
@[simp] theorem releaseAll_nextVector (s : State) : (releaseAll s).nextVector = s.nextVector := by
  by_cases h : s.pbCreated = true <;> simp [releaseAll, h]
@[simp] theorem releaseAll_latchedVector (s : State) : (releaseAll s).latchedVector = s.latchedVector := by
  by_cases h : s.pbCreated = true <;> simp [releaseAll, h]
@[simp] theorem releaseAll_lastTick (s : State) : (releaseAll s).lastTick = s.lastTick := by
  by_cases h : s.pbCreated = true <;> simp [releaseAll, h]
@[simp] theorem releaseAll_pbCreated (s : State) : (releaseAll s).pbCreated = false := by
  by_cases h : s.pbCreated = true <;> simp [releaseAll, h]
@[simp] theorem releaseAll_pbLocked (s : State) : (releaseAll s).pbLocked = s.pbLocked := by
  by_cases h : s.pbCreated = true <;> simp [releaseAll, h]
@[simp] theorem releaseAll_pb (s : State) : (releaseAll s).pb = cond s.pbCreated [] s.pb := by
  by_cases h : s.pbCreated = true <;> simp [releaseAll, h]
@[simp] theorem releaseAll_mem (s : State) : (releaseAll s).mem = s.mem := by
  by_cases h : s.pbCreated = true <;> simp [releaseAll, h]
@[simp] theorem releaseAll_trace (s : State) : (releaseAll s).trace = s.trace ++ releaseEvents s.pbCreated := by
  by_cases h : s.pbCreated = true <;> simp [releaseEvents, releaseAll, h]
@[simp] theorem releaseAll_result (s : State) : (releaseAll s).result = s.result := by
  by_cases h : s.pbCreated = true <;> simp [releaseAll, h]
@[simp] theorem releaseAll_cmds (s : State) : (releaseAll s).cmds = s.cmds := by
  by_cases h : s.pbCreated = true <;> simp [releaseAll, h]
@[simp] theorem releaseAll_script (s : State) : (releaseAll s).script = s.script := by
  by_cases h : s.pbCreated = true <;> simp [releaseAll, h]
@[simp] theorem releaseAll_opCount (s : State) : (releaseAll s).opCount = s.opCount := by
  by_cases h : s.pbCreated = true <;> simp [releaseAll, h]

/-! ## raiseFatal and shutdown: every field but those of releaseAll and exitWith as before -/

@[simp] theorem raiseFatal_cfg (kind : ReportKind) (c : ExitStatus) (s : State) : (raiseFatal kind c s).cfg = s.cfg := by simp [raiseFatal]
@[simp] theorem raiseFatal_run (kind : ReportKind) (c : ExitStatus) (s : State) : (raiseFatal kind c s).run = .exited c := by simp [raiseFatal]
@[simp] theorem raiseFatal_pending (kind : ReportKind) (c : ExitStatus) (s : State) : (raiseFatal kind c s).pending = s.pending := by simp [raiseFatal]
@[simp] theorem raiseFatal_nextVector (kind : ReportKind) (c : ExitStatus) (s : State) : (raiseFatal kind c s).nextVector = s.nextVector := by simp [raiseFatal]
@[simp] theorem raiseFatal_latchedVector (kind : ReportKind) (c : ExitStatus) (s : State) : (raiseFatal kind c s).latchedVector = s.latchedVector := by simp [raiseFatal]
@[simp] theorem raiseFatal_lastTick (kind : ReportKind) (c : ExitStatus) (s : State) : (raiseFatal kind c s).lastTick = s.lastTick := by simp [raiseFatal]
@[simp] theorem raiseFatal_pbCreated (kind : ReportKind) (c : ExitStatus) (s : State) : (raiseFatal kind c s).pbCreated = false := by simp [raiseFatal]
@[simp] theorem raiseFatal_pbLocked (kind : ReportKind) (c : ExitStatus) (s : State) : (raiseFatal kind c s).pbLocked = s.pbLocked := by simp [raiseFatal]
@[simp] theorem raiseFatal_pb (kind : ReportKind) (c : ExitStatus) (s : State) : (raiseFatal kind c s).pb = cond s.pbCreated [] s.pb := by
  by_cases h : s.pbCreated = true <;> simp [raiseFatal, h]
@[simp] theorem raiseFatal_mem (kind : ReportKind) (c : ExitStatus) (s : State) : (raiseFatal kind c s).mem = s.mem := by simp [raiseFatal]
@[simp] theorem raiseFatal_trace (kind : ReportKind) (c : ExitStatus) (s : State) : (raiseFatal kind c s).trace = s.trace ++ [.report kind] ++ releaseEvents s.pbCreated ++ [.exit c] := by
  by_cases h : s.pbCreated = true <;> simp [releaseEvents, raiseFatal, h]
@[simp] theorem raiseFatal_result (kind : ReportKind) (c : ExitStatus) (s : State) : (raiseFatal kind c s).result = s.result := by simp [raiseFatal]
@[simp] theorem raiseFatal_cmds (kind : ReportKind) (c : ExitStatus) (s : State) : (raiseFatal kind c s).cmds = s.cmds := by simp [raiseFatal]
@[simp] theorem raiseFatal_script (kind : ReportKind) (c : ExitStatus) (s : State) : (raiseFatal kind c s).script = s.script := by simp [raiseFatal]
@[simp] theorem raiseFatal_opCount (kind : ReportKind) (c : ExitStatus) (s : State) : (raiseFatal kind c s).opCount = s.opCount := by simp [raiseFatal]

@[simp] theorem shutdown_cfg (s : State) : (shutdown s).cfg = s.cfg := by simp [shutdown]
@[simp] theorem shutdown_run (s : State) : (shutdown s).run = .exited exitOk := by simp [shutdown]
@[simp] theorem shutdown_pending (s : State) : (shutdown s).pending = s.pending := by simp [shutdown]
@[simp] theorem shutdown_nextVector (s : State) : (shutdown s).nextVector = s.nextVector := by simp [shutdown]
@[simp] theorem shutdown_latchedVector (s : State) : (shutdown s).latchedVector = s.latchedVector := by simp [shutdown]
@[simp] theorem shutdown_lastTick (s : State) : (shutdown s).lastTick = s.lastTick := by simp [shutdown]
@[simp] theorem shutdown_pbCreated (s : State) : (shutdown s).pbCreated = false := by simp [shutdown]
@[simp] theorem shutdown_pbLocked (s : State) : (shutdown s).pbLocked = s.pbLocked := by simp [shutdown]
@[simp] theorem shutdown_pb (s : State) : (shutdown s).pb = cond s.pbCreated [] s.pb := by
  by_cases h : s.pbCreated = true <;> simp [shutdown, h]
@[simp] theorem shutdown_mem (s : State) : (shutdown s).mem = s.mem := by simp [shutdown]
@[simp] theorem shutdown_trace (s : State) : (shutdown s).trace = s.trace ++ releaseEvents s.pbCreated ++ [.exit exitOk] := by
  by_cases h : s.pbCreated = true <;> simp [releaseEvents, shutdown, h]
@[simp] theorem shutdown_result (s : State) : (shutdown s).result = s.result := by simp [shutdown]
@[simp] theorem shutdown_cmds (s : State) : (shutdown s).cmds = s.cmds := by simp [shutdown]
@[simp] theorem shutdown_script (s : State) : (shutdown s).script = s.script := by simp [shutdown]
@[simp] theorem shutdown_opCount (s : State) : (shutdown s).opCount = s.opCount := by simp [shutdown]

/-! ## drawFrame -/

@[simp] theorem drawFrame_cfg (e : Env) (s : State) : (drawFrame e s).cfg = s.cfg := by
  unfold drawFrame; split <;> rfl
@[simp] theorem drawFrame_run (e : Env) (s : State) : (drawFrame e s).run = s.run := by
  unfold drawFrame; split <;> rfl
@[simp] theorem drawFrame_pending (e : Env) (s : State) : (drawFrame e s).pending = s.pending := by
  unfold drawFrame; split <;> rfl
@[simp] theorem drawFrame_nextVector (e : Env) (s : State) : (drawFrame e s).nextVector = s.nextVector := by
  unfold drawFrame; split <;> rfl
@[simp] theorem drawFrame_latchedVector (e : Env) (s : State) : (drawFrame e s).latchedVector = s.latchedVector := by
  unfold drawFrame; split <;> rfl
@[simp] theorem drawFrame_lastTick (e : Env) (s : State) : (drawFrame e s).lastTick = s.lastTick := by
  unfold drawFrame; split <;> rfl
@[simp] theorem drawFrame_pbCreated (e : Env) (s : State) : (drawFrame e s).pbCreated = s.pbCreated := by
  unfold drawFrame; split <;> rfl
@[simp] theorem drawFrame_pbLocked (e : Env) (s : State) : (drawFrame e s).pbLocked = s.pbLocked := by
  unfold drawFrame; split <;> rfl
@[simp] theorem drawFrame_pb (e : Env) (s : State) : (drawFrame e s).pb =
    cond (s.pbCreated && s.pbLocked) (writePixels s.cfg.params (region e s) s.pb) s.pb := by
  unfold drawFrame; cases s.pbCreated <;> cases s.pbLocked <;> simp
@[simp] theorem drawFrame_mem (e : Env) (s : State) : (drawFrame e s).mem = s.mem := by
  unfold drawFrame; split <;> rfl
@[simp] theorem drawFrame_trace (e : Env) (s : State) : (drawFrame e s).trace = s.trace := by
  unfold drawFrame; split <;> rfl
@[simp] theorem drawFrame_result (e : Env) (s : State) : (drawFrame e s).result = s.result := by
  unfold drawFrame; split <;> rfl
@[simp] theorem drawFrame_cmds (e : Env) (s : State) : (drawFrame e s).cmds = s.cmds := by
  unfold drawFrame; split <;> rfl
@[simp] theorem drawFrame_script (e : Env) (s : State) : (drawFrame e s).script = s.script := by
  unfold drawFrame; split <;> rfl
@[simp] theorem drawFrame_opCount (e : Env) (s : State) : (drawFrame e s).opCount = s.opCount := by
  unfold drawFrame; split <;> rfl

/-! ## deliver -/

@[simp] theorem deliver_cfg (ie : Bool) (s : State) : (deliver ie s).cfg = s.cfg := by
  unfold deliver; split <;> rfl
@[simp] theorem deliver_run (ie : Bool) (s : State) : (deliver ie s).run = s.run := by
  unfold deliver; split <;> rfl
@[simp] theorem deliver_pending (ie : Bool) (s : State) : (deliver ie s).pending = (s.pending && !ie) := by
  unfold deliver; cases ie <;> cases h : s.pending <;> simp
@[simp] theorem deliver_nextVector (ie : Bool) (s : State) : (deliver ie s).nextVector = s.nextVector := by
  unfold deliver; split <;> rfl
@[simp] theorem deliver_latchedVector (ie : Bool) (s : State) : (deliver ie s).latchedVector = s.latchedVector := by
  unfold deliver; split <;> rfl
@[simp] theorem deliver_lastTick (ie : Bool) (s : State) : (deliver ie s).lastTick = s.lastTick := by
  unfold deliver; split <;> rfl
@[simp] theorem deliver_pbCreated (ie : Bool) (s : State) : (deliver ie s).pbCreated = s.pbCreated := by
  unfold deliver; split <;> rfl
@[simp] theorem deliver_pbLocked (ie : Bool) (s : State) : (deliver ie s).pbLocked = s.pbLocked := by
  unfold deliver; split <;> rfl
@[simp] theorem deliver_pb (ie : Bool) (s : State) : (deliver ie s).pb = s.pb := by
  unfold deliver; split <;> rfl
@[simp] theorem deliver_mem (ie : Bool) (s : State) : (deliver ie s).mem = s.mem := by
  unfold deliver; split <;> rfl
@[simp] theorem deliver_trace (ie : Bool) (s : State) : (deliver ie s).trace = s.trace := by
  unfold deliver; split <;> rfl
@[simp] theorem deliver_result (ie : Bool) (s : State) : (deliver ie s).result = cond (s.pending && ie) (some s.latchedVector) none := by
  unfold deliver; cases ie <;> cases h : s.pending <;> simp
@[simp] theorem deliver_cmds (ie : Bool) (s : State) : (deliver ie s).cmds = s.cmds := by
  unfold deliver; split <;> rfl
@[simp] theorem deliver_script (ie : Bool) (s : State) : (deliver ie s).script = s.script := by
  unfold deliver; split <;> rfl
@[simp] theorem deliver_opCount (ie : Bool) (s : State) : (deliver ie s).opCount = s.opCount := by
  unfold deliver; split <;> rfl

/-! An event without its frame. -/

@[simp] theorem Event.withoutFrame_present (f : List Pixel) : Event.withoutFrame (.present f) = .present [] := rfl

/-- Only a `Present` has a frame to lose. -/
theorem Event.withoutFrame_of_not_present {e : Event} (h : isPresent e = false) : e.withoutFrame = e := by
  cases e <;> first | rfl | simp [isPresent] at h

end Sys2Proof.Machine
end

