-- ==== Sys2Proof/Laws/Decoder.lean ====
section
/-! SUPPORT. What `RENDER` can do, said once; the lengths and words of the frames it writes. -/

namespace Sys2Proof.Machine

/-! ## Frames -/

theorem pix_white_or_black (b : Bool) : pix b = white ∨ pix b = black := by cases b <;> simp [pix]

@[simp] theorem pixWrite_length (f : List Pixel) (k : Nat) (v : Pixel) : (pixWrite f k v).length = f.length := by
  simp [pixWrite]

/-- A run of pixel writes keeps the number of words. -/
theorem foldl_pixWrite_length {α : Type} (g : α → Nat) (v : α → Pixel) (l : List α) (f : List Pixel) :
    (l.foldl (fun f i => pixWrite f (g i) (v i)) f).length = f.length := by
  induction l generalizing f with
  | nil => rfl
  | cons i l ih => simp [ih]

@[simp] theorem writePixels_length (p : Params) (m : List Byte) (f : List Pixel) :
    (writePixels p m f).length = f.length := foldl_pixWrite_length _ _ _ _

@[simp] theorem decodeFrame_length (p : Params) (m : List Byte) : (decodeFrame p m).length = p.npix := by
  simp [decodeFrame]

/-- Every decoded frame is a whole frame. -/
theorem decodeFrame_frameOk (p : Params) (m : List Byte) : FrameOk p (decodeFrame p m) := by
  refine ⟨by simp, fun v hv => ?_⟩
  obtain ⟨k, -, rfl⟩ := List.mem_map.1 hv
  exact pix_white_or_black _

@[simp] theorem region_length (e : Env) (s : State) : (region e s).length = s.cfg.params.vramLen := by simp [region]

/-- The bytes of the region depend on the parameters and on memory alone. -/
theorem region_congr {e : Env} {s t : State} (hc : t.cfg = s.cfg) (hm : t.mem = s.mem) : region e t = region e s := by
  cases s; cases t
  simp only at hc hm
  subst hc hm
  rfl

/-! ## RENDER -/

/-- A render that draws, from the state in which the buffer exists: the state it ends in. -/
def drawn (e : Env) (u : State) : State := presentFrame (unlockBuffer (drawFrame e (lockBuffer (u.emit .lock))))

/-- Everything `RENDER` can do: it fails to create the buffer; or, with the buffer existing (`u`), it fails to lock it, or
draws and presents. -/
theorem render_cases {P : RenderEnd → Prop} (e : Env) (s : State)
    (createFails : s.pbCreated = false → e.create = .fail →
      P (.fatal (raiseFatal .createFailure s.cfg.params.exitCreate (s.emit .create))))
    (lockFails : ∀ u, (s.pbCreated = true ∧ u = s ∨ s.pbCreated = false ∧ e.create = .ok ∧ u = createBuffer (s.emit .create)) →
      e.lock = .fail → P (.fatal (raiseFatal .lockFailure exitLock (u.emit .lock))))
    (draws : ∀ u, (s.pbCreated = true ∧ u = s ∨ s.pbCreated = false ∧ e.create = .ok ∧ u = createBuffer (s.emit .create)) →
      e.lock = .ok → P (.done (drawn e u))) :
    P (render e s) := by
  have key : ∀ u, (s.pbCreated = true ∧ u = s ∨
      s.pbCreated = false ∧ e.create = .ok ∧ u = createBuffer (s.emit .create)) → P (lockAndDraw e u) := by
    intro u hu
    unfold lockAndDraw
    cases hl : e.lock with
    | ok => exact draws u hu hl
    | fail => exact lockFails u hu hl
  unfold render
  by_cases hp : s.pbCreated = true
  · rw [if_pos hp]
    exact key s (.inl ⟨hp, rfl⟩)
  · rw [if_neg hp]
    have hp' : s.pbCreated = false := by simpa using hp
    cases hc : e.create with
    | ok => exact key _ (.inr ⟨hp', hc, rfl⟩)
    | fail => exact createFails hp' hc

/-! What `RENDER` never changes. -/

@[simp] theorem drawn_cfg (e : Env) (u : State) : (drawn e u).cfg = u.cfg := by simp [drawn]
@[simp] theorem drawn_run (e : Env) (u : State) : (drawn e u).run = u.run := by simp [drawn]
@[simp] theorem drawn_pending (e : Env) (u : State) : (drawn e u).pending = u.pending := by simp [drawn]
@[simp] theorem drawn_nextVector (e : Env) (u : State) : (drawn e u).nextVector = u.nextVector := by simp [drawn]
@[simp] theorem drawn_latchedVector (e : Env) (u : State) : (drawn e u).latchedVector = u.latchedVector := by simp [drawn]
@[simp] theorem drawn_lastTick (e : Env) (u : State) : (drawn e u).lastTick = u.lastTick := by simp [drawn]
@[simp] theorem drawn_pbCreated (e : Env) (u : State) : (drawn e u).pbCreated = u.pbCreated := by simp [drawn]
@[simp] theorem drawn_pbLocked (e : Env) (u : State) : (drawn e u).pbLocked = false := by simp [drawn]
@[simp] theorem drawn_mem (e : Env) (u : State) : (drawn e u).mem = u.mem := by simp [drawn]
@[simp] theorem drawn_result (e : Env) (u : State) : (drawn e u).result = u.result := by simp [drawn]
@[simp] theorem drawn_cmds (e : Env) (u : State) : (drawn e u).cmds = u.cmds := by simp [drawn]
@[simp] theorem drawn_script (e : Env) (u : State) : (drawn e u).script = u.script := by simp [drawn]
@[simp] theorem drawn_opCount (e : Env) (u : State) : (drawn e u).opCount = u.opCount := by simp [drawn]

/-- The words after a draw into an existing buffer: every pixel write of the decode. -/
theorem drawn_pb (e : Env) (u : State) (h : u.pbCreated = true) :
    (drawn e u).pb = writePixels u.cfg.params (region e u) u.pb := by
  simp [drawn, h, region_congr (e := e) (s := u) (t := lockBuffer (u.emit .lock)) rfl rfl]

/-- The events of a draw: the buffer is presented only after its unlock (R143, R144). -/
theorem drawn_trace (e : Env) (u : State) :
    (drawn e u).trace = u.trace ++ [.lock] ++ [.unlock] ++ [.present (drawn e u).pb] := by
  simp [drawn]

/-- `RENDER` leaves the parameters, the scheduler's registers, memory and the model's inputs alone. -/
theorem render_keeps (e : Env) (s : State) :
    (render e s).state.cfg = s.cfg ∧ (render e s).state.pending = s.pending ∧
    (render e s).state.nextVector = s.nextVector ∧ (render e s).state.latchedVector = s.latchedVector ∧
    (render e s).state.lastTick = s.lastTick ∧ (render e s).state.mem = s.mem ∧
    (render e s).state.result = s.result ∧ (render e s).state.cmds = s.cmds ∧
    (render e s).state.script = s.script ∧ (render e s).state.opCount = s.opCount := by
  refine render_cases (P := fun r => r.state.cfg = s.cfg ∧ r.state.pending = s.pending ∧
    r.state.nextVector = s.nextVector ∧ r.state.latchedVector = s.latchedVector ∧ r.state.lastTick = s.lastTick ∧
    r.state.mem = s.mem ∧ r.state.result = s.result ∧ r.state.cmds = s.cmds ∧ r.state.script = s.script ∧
    r.state.opCount = s.opCount) e s ?_ ?_ ?_
  · intro _ _; simp [RenderEnd.state]
  · rintro u (⟨-, rfl⟩ | ⟨-, -, rfl⟩) _ <;> simp [RenderEnd.state]
  · rintro u (⟨-, rfl⟩ | ⟨-, -, rfl⟩) _ <;> simp [RenderEnd.state]

end Sys2Proof.Machine
end

