-- ==== Sys2Proof/Laws/Encoding.lean ====
section
/-! SUPPORT. The fields of a command word and the packing of them undo each other, and masking works field by field. -/

namespace Sys2Proof

/-- Each bit of a packed word, by field (R88). -/
theorem packWord_getLsbD (op : BitVec 3) (ie : Bool) (now : Millis) (i : Nat) :
    (packWord op ie now).getLsbD i =
      (if i < 32 then now.getLsbD i else if i = 32 then ie else op.getLsbD (i - 33)) := by
  unfold packWord
  simp only [BitVec.getLsbD_append, BitVec.getLsbD_ofBool]
  by_cases h : i < 32
  · simp [h]
  · by_cases h2 : i = 32
    · subst h2; simp
    · have h3 : ¬ (i - 32 < 1) := by omega
      have h4 : i - 32 - 1 = i - 33 := by omega
      simp [h, h2, h3, h4]

@[simp] theorem cwOp_packWord (op : BitVec 3) (ie : Bool) (now : Millis) : cwOp (packWord op ie now) = op := by
  apply BitVec.eq_of_getLsbD_eq
  intro i hi
  have h1 : ¬ (33 + i < 32) := by omega
  have h2 : ¬ (33 + i = 32) := by omega
  have h3 : 33 + i - 33 = i := by omega
  rw [cwOp, BitVec.getLsbD_extractLsb', packWord_getLsbD, if_neg h1, if_neg h2, h3]
  simp [hi]

@[simp] theorem cwIe_packWord (op : BitVec 3) (ie : Bool) (now : Millis) : cwIe (packWord op ie now) = ie := by
  rw [cwIe, packWord_getLsbD]
  simp

@[simp] theorem cwNow_packWord (op : BitVec 3) (ie : Bool) (now : Millis) : cwNow (packWord op ie now) = now := by
  apply BitVec.eq_of_getLsbD_eq
  intro i hi
  have h1 : 0 + i < 32 := by omega
  rw [cwNow, BitVec.getLsbD_extractLsb', packWord_getLsbD, if_pos h1]
  simp [hi]

/-- A word is its three fields packed. -/
theorem packWord_fields (w : CmdWord) : packWord (cwOp w) (cwIe w) (cwNow w) = w := by
  apply BitVec.eq_of_getLsbD_eq
  intro i hi
  rw [packWord_getLsbD, cwOp, cwNow, BitVec.getLsbD_extractLsb', BitVec.getLsbD_extractLsb']
  by_cases h : i < 32
  · simp [h]
  · by_cases h2 : i = 32
    · subst h2; simp [cwIe]
    · have h3 : i - 33 < 3 := by omega
      have h4 : 33 + (i - 33) = i := by omega
      simp [h, h2, h3, h4]

/-- Packed words are equal only when their fields are. -/
theorem packWord_inj {op op' : BitVec 3} {ie ie' : Bool} {now now' : Millis} :
    packWord op ie now = packWord op' ie' now' ↔ op = op' ∧ ie = ie' ∧ now = now' := by
  constructor
  · intro h
    exact ⟨by simpa using congrArg cwOp h, by simpa using congrArg cwIe h, by simpa using congrArg cwNow h⟩
  · rintro ⟨rfl, rfl, rfl⟩
    rfl

/-- Masking a packed word masks each field. -/
theorem packWord_and (op op' : BitVec 3) (ie ie' : Bool) (now now' : Millis) :
    packWord op ie now &&& packWord op' ie' now' = packWord (op &&& op') (ie && ie') (now &&& now') := by
  apply BitVec.eq_of_getLsbD_eq
  intro i hi
  rw [BitVec.getLsbD_and, packWord_getLsbD, packWord_getLsbD, packWord_getLsbD]
  split
  · rw [BitVec.getLsbD_and]
  · split
    · rfl
    · rw [BitVec.getLsbD_and]

/-- Each row of the table (R89) as a condition on the fields. -/
theorem spelledBy_iff (w : CmdWord) :
    (OpRow.spelledBy ⟨"INIT", 0x000000000#36, 0xFFFFFFFFF#36⟩ w = true ↔ cwOp w = 0#3 ∧ cwIe w = false ∧ cwNow w = 0#32) ∧
    (OpRow.spelledBy ⟨"ITER", 0x200000000#36, 0xFFFFFFFFF#36⟩ w = true ↔ cwOp w = 1#3 ∧ cwIe w = false ∧ cwNow w = 0#32) ∧
    (OpRow.spelledBy ⟨"TICK", 0x400000000#36, 0xF00000000#36⟩ w = true ↔ cwOp w = 2#3 ∧ cwIe w = false) ∧
    (OpRow.spelledBy ⟨"DELIVER", 0x600000000#36, 0xEFFFFFFFF#36⟩ w = true ↔ cwOp w = 3#3 ∧ cwNow w = 0#32) ∧
    (OpRow.spelledBy ⟨"RENDER", 0x800000000#36, 0xFFFFFFFFF#36⟩ w = true ↔ cwOp w = 4#3 ∧ cwIe w = false ∧ cwNow w = 0#32) ∧
    (OpRow.spelledBy ⟨"SHUTDOWN", 0xA00000000#36, 0xFFFFFFFFF#36⟩ w = true ↔
      cwOp w = 5#3 ∧ cwIe w = false ∧ cwNow w = 0#32) := by
  have all1 : (0xFFFFFFFFF#36 : CmdWord) = packWord 7#3 true 0xFFFFFFFF#32 := by decide
  have tickM : (0xF00000000#36 : CmdWord) = packWord 7#3 true 0#32 := by decide
  have delM : (0xEFFFFFFFF#36 : CmdWord) = packWord 7#3 false 0xFFFFFFFF#32 := by decide
  have p0 : (0x000000000#36 : CmdWord) = packWord 0#3 false 0#32 := by decide
  have p1 : (0x200000000#36 : CmdWord) = packWord 1#3 false 0#32 := by decide
  have p2 : (0x400000000#36 : CmdWord) = packWord 2#3 false 0#32 := by decide
  have p3 : (0x600000000#36 : CmdWord) = packWord 3#3 false 0#32 := by decide
  have p4 : (0x800000000#36 : CmdWord) = packWord 4#3 false 0#32 := by decide
  have p5 : (0xA00000000#36 : CmdWord) = packWord 5#3 false 0#32 := by decide
  have opAnd : ∀ o : BitVec 3, o &&& 7#3 = o := by decide
  have nowAnd : ∀ t : Millis, t &&& 0xFFFFFFFF#32 = t := fun t => by
    rw [show (0xFFFFFFFF#32 : Millis) = BitVec.allOnes 32 by decide, BitVec.and_allOnes]
  have now0 : ∀ t : Millis, t &&& 0#32 = 0#32 := fun t => BitVec.and_zero
  simp only [OpRow.spelledBy, decide_eq_true_eq]
  rw [← packWord_fields w, all1, tickM, delM, p0, p1, p2, p3, p4, p5]
  simp only [packWord_and, packWord_inj, opAnd, nowAnd, now0, cwOp_packWord, cwIe_packWord, cwNow_packWord,
    Bool.and_true, Bool.and_false, true_and, and_true, and_self]

/-- The six rows have their masks and patterns as the table lists them. -/
theorem row_mem_opTable (i : Instr) : i.row ∈ opTable := by
  cases i <;> simp [Instr.row, opTable]

end Sys2Proof
end

