-- ==== Sys2Proof/Laws/PerInstr.lean ====
section
/-! SUPPORT. Facts stated for every operation, one lemma for each (LAWS.json): the encoder's word spells the operation's own
row of the table (spec/30_encoding.md R89) and so is a well-formed command word. -/

namespace Sys2Proof.Laws.EncodeRow

/-- The word of an operation meets its row's mask and match. -/
def Statement (i : Instr) : Prop := i.row.spelledBy (encode i) = true ∧ wordWf (encode i) = true

/-- A word that spells a row of the table is well formed. -/
theorem of_spelledBy {i : Instr} (h : i.row.spelledBy (encode i) = true) : Statement i :=
  ⟨h, List.any_eq_true.2 ⟨i.row, row_mem_opTable i, h⟩⟩

theorem init : Statement .init := of_spelledBy ((spelledBy_iff _).1.2 ⟨by simp [encode], by simp [encode], by simp [encode]⟩)
theorem iter : Statement .iter :=
  of_spelledBy ((spelledBy_iff _).2.1.2 ⟨by simp [encode], by simp [encode], by simp [encode]⟩)
theorem tick (now : Millis) : Statement (.tick now) :=
  of_spelledBy ((spelledBy_iff _).2.2.1.2 ⟨by simp [encode], by simp [encode]⟩)
theorem deliver (ie : Bool) : Statement (.deliver ie) :=
  of_spelledBy ((spelledBy_iff _).2.2.2.1.2 ⟨by simp [encode], by simp [encode]⟩)
theorem render : Statement .render :=
  of_spelledBy ((spelledBy_iff _).2.2.2.2.1.2 ⟨by simp [encode], by simp [encode], by simp [encode]⟩)
theorem shutdown : Statement .shutdown :=
  of_spelledBy ((spelledBy_iff _).2.2.2.2.2.2 ⟨by simp [encode], by simp [encode], by simp [encode]⟩)

end Sys2Proof.Laws.EncodeRow
end

