-- ==== Sys2Proof/Laws/Scheduler.lean ====
section
/-! SUPPORT. What `TICK`, `ITER`, `INIT` and a step can do, said once each. -/

namespace Sys2Proof.Machine

@[simp] theorem Vec.toggle_v1 : Vec.toggle .v1 = .v2 := rfl
@[simp] theorem Vec.toggle_v2 : Vec.toggle .v2 = .v1 := rfl
@[simp] theorem Vec.toggle_toggle (v : Vec) : v.toggle.toggle = v := by cases v <;> rfl

/-- A crossing, as a comparison of numbers (R110). -/
theorem crossing_iff {threshold : Nat} {now last : Millis} :
    crossing threshold now last = true ↔ threshold ≤ (now - last).toNat := by
  unfold crossing elapsed
  exact decide_eq_true_iff

/-- Everything `TICK` can do (R111, R112, R123). -/
theorem tick_cases {P : State → Prop} (e : Env) (now : Millis) (s : State)
    (idle : crossing s.cfg.params.threshold now s.lastTick = false → P s)
    (odd : crossing s.cfg.params.threshold now s.lastTick = true → s.nextVector = .v2 →
      P (raiseRequest (latchCrossing now s)))
    (even : ∀ t, crossing s.cfg.params.threshold now s.lastTick = true → s.nextVector = .v1 →
      render e (latchCrossing now s) = .done t → P (raiseRequest t))
    (fatal : ∀ t, crossing s.cfg.params.threshold now s.lastTick = true → s.nextVector = .v1 →
      render e (latchCrossing now s) = .fatal t → P t) :
    P (tick e now s) := by
  unfold tick
  by_cases hc : crossing s.cfg.params.threshold now s.lastTick = true
  · rw [if_pos hc]
    unfold finishCrossing
    cases hv : s.nextVector with
    | v2 => simpa [hv] using odd hc hv
    | v1 =>
      simp only [latchCrossing_nextVector, hv, Vec.toggle_v1]
      cases hr : render e (latchCrossing now s) with
      | done t => exact even t hc hv hr
      | fatal t => exact fatal t hc hv hr
  · rw [if_neg hc]
    exact idle (by simpa using hc)

/-- The state `ITER` has after `DELIVER` (R163). -/
def delivered (e : Env) (s : State) : State := deliver e.ie ((s.emit .pollQuit).emit .readIE)

/-- The state `ITER` has when it fetches: after `DELIVER` and, if a vector was delivered, its execution (R163, R165). -/
def beforeFetch (e : Env) (s : State) : State :=
  match (delivered e s).result with
  | some x => execEngine (vecCode s.cfg.params x) e.vecWrites (delivered e s)
  | none => delivered e s

/-- The state `ITER` has after the fetched operation (R163). -/
def fetched (e : Env) (s : State) : State := execEngine e.op e.opWrites ((beforeFetch e s).emit .fetch)

/-- Everything `ITER` can do: quit; a halt for the vector; a halt for the fetched operation; or the `TICK` (R163, R211). -/
theorem iterate_cases {P : State → Prop} (e : Env) (s : State)
    (quit : e.quit = true → P (shutdown (s.emit .pollQuit)))
    (vecHalt : ∀ x, e.quit = false → (delivered e s).result = some x → e.hv = true →
      P (shutdown (execEngine (vecCode s.cfg.params x) e.vecWrites (delivered e s))))
    (opHalt : e.quit = false → ((delivered e s).result = none ∨ e.hv = false) → e.h = true → P (shutdown (fetched e s)))
    (whole : e.quit = false → ((delivered e s).result = none ∨ e.hv = false) → e.h = false →
      P (tick e e.now ((fetched e s).emit .now))) :
    P (iterate e s) := by
  have fetchPart : e.quit = false → ((delivered e s).result = none ∨ e.hv = false) →
      P (phaseFetch e (beforeFetch e s)) := by
    intro hq hd
    unfold phaseFetch
    by_cases hh : e.h = true
    · rw [if_pos hh]
      exact opHalt hq hd hh
    · rw [if_neg hh]
      exact whole hq hd (by simpa using hh)
  unfold iterate
  by_cases hq : e.quit = true
  · rw [if_pos hq]
    exact quit hq
  · have hq' : e.quit = false := by simpa using hq
    rw [if_neg hq]
    show P (afterDeliver e (delivered e s))
    unfold afterDeliver
    cases hr : (delivered e s).result with
    | none =>
      have hb : beforeFetch e s = delivered e s := by simp [beforeFetch, hr]
      have := fetchPart hq' (.inl hr)
      rwa [hb] at this
    | some x =>
      have hb : beforeFetch e s = execEngine (vecCode s.cfg.params x) e.vecWrites (delivered e s) := by
        simp [beforeFetch, hr]
      have hcfg : (delivered e s).cfg = s.cfg := by simp [delivered]
      simp only
      unfold phaseVec
      by_cases hh : e.hv = true
      · rw [if_pos hh, hcfg]
        exact vecHalt x hq' hr hh
      · rw [if_neg hh, hcfg, ← hb]
        exact fetchPart hq' (.inr (by simpa using hh))

/-- Everything `INIT` can do (R160). -/
theorem initBlock_cases {P : State → Prop} (e : Env) (s : State)
    (fails : e.init = .fail → P (exitWith exitInit ((s.emit .initPresentation).emit (.report .initFailure))))
    (starts : e.init = .ok → P (initRegisters (s.emit .initPresentation))) :
    P (initBlock e s) := by
  unfold initBlock
  cases h : e.init with
  | ok => exact starts h
  | fail => exact fails h

/-- An admitted operation answers a next state only while RUNNING, and then the one its rule gives. -/
theorem whenRunning_next {f : Env → State → State} {s t : State} :
    whenRunning f s = .next t ↔ s.run = .running ∧ t = f s.env s.begun := by
  unfold whenRunning
  cases h : s.run <;> simp [eq_comm]

/-- `INIT` answers a next state only in OFF. -/
theorem execInit_next {s t : State} : execInit s = .next t ↔ s.run = .off ∧ t = initBlock s.env s.begun := by
  unfold execInit
  cases h : s.run <;> simp [eq_comm]

/-- Everything an operation that answers a next state has done. -/
theorem exec_next_cases {i : Instr} {s t : State} (h : exec i s = .next t) :
    (i = .init ∧ s.run = .off ∧ t = initBlock s.env s.begun) ∨
    (i = .iter ∧ s.run = .running ∧ t = iterate s.env s.begun) ∨
    (∃ now, i = .tick now ∧ s.run = .running ∧ t = tick s.env now s.begun) ∨
    (∃ ie, i = .deliver ie ∧ s.run = .running ∧ t = deliver ie s.begun) ∨
    (i = .render ∧ s.run = .running ∧ t = (render s.env s.begun).state) ∨
    (i = .shutdown ∧ s.run = .running ∧ t = shutdown s.begun) := by
  cases i with
  | init => exact .inl ⟨rfl, execInit_next.1 h⟩
  | iter => exact .inr (.inl ⟨rfl, whenRunning_next.1 h⟩)
  | tick now => exact .inr (.inr (.inl ⟨now, rfl, (whenRunning_next (f := fun e s => tick e now s)).1 h⟩))
  | deliver ie => exact .inr (.inr (.inr (.inl ⟨ie, rfl, (whenRunning_next (f := fun _ s => deliver ie s)).1 h⟩)))
  | render => exact .inr (.inr (.inr (.inr (.inl ⟨rfl, (whenRunning_next (f := fun e s => (render e s).state)).1 h⟩))))
  | shutdown => exact .inr (.inr (.inr (.inr (.inr ⟨rfl, (whenRunning_next (f := fun _ s => shutdown s)).1 h⟩))))

/-- A step that answers a next state ran one operation, from the state itself or from the state less a queued word. -/
theorem step_next {s t : State} (h : step s = .next t) :
    ∃ i u, exec i u = .next t ∧ (u = s ∨ ∃ w rest, s.cmds = w :: rest ∧ decode w = .instr i ∧ u = { s with cmds := rest }) := by
  unfold step fetchNext at h
  cases hc : s.cmds with
  | nil =>
    simp only [hc, autonomous] at h
    cases hr : s.run with
    | off => simp only [hr] at h; exact ⟨_, _, h, .inl rfl⟩
    | running => simp only [hr] at h; exact ⟨_, _, h, .inl rfl⟩
    | exited c => simp [hr] at h
  | cons w rest =>
    simp only [hc, fetchWord] at h
    cases hd : decode w with
    | instr i => simp only [hd] at h; exact ⟨i, _, h, .inr ⟨w, rest, rfl, hd, rfl⟩⟩
    | reservedOp => simp [hd] at h
    | mustBeZero => simp [hd] at h

end Sys2Proof.Machine
end

