-- ==== Sys2Proof/Tests/Slice0.lean ====
section
/-! SUPPORT. The model's own tests, each with its source in the spec, and a witness for the hypotheses of every statement that
has any. "V<n>" and "P<n>" are the vectors and programs of spec/95_test_vectors.md. -/

open Sys2Proof Sys2Proof.Machine

namespace Sys2Proof.Tests

/-! ## Small boards and states -/

/-- The display of the vectors, 4 by 2 pixels, with the known vector codes of R8. -/
def board42 : Board := ⟨⟨4, 2, 2, 8, 10, 0xCF, 0xD7, 1⟩, by decide⟩
/-- The display of P4, 4 by 4 pixels, with a region that ends where memory ends. -/
def board44 : Board := ⟨⟨4, 4, 6, 8, 10, 0xCF, 0xD7, 1⟩, by decide⟩
/-- A display whose height is a multiple of 8. -/
def board38 : Board := ⟨⟨3, 8, 0, 3, 0, 0xCF, 0xD7, 1⟩, by decide⟩

/-- A running block with the values of `S0` (R40) on a board. -/
def running (b : Board) : State := { State.reset with cfg := b, run := .running }
/-- The first display's block after `INIT`. -/
def s0 : State := running board42
/-- `S0` with the four scheduler registers given. -/
def sched (pending : Bool) (v : Vec) (last : Millis) : State :=
  { s0 with pending := pending, nextVector := v, latchedVector := v, lastTick := last }
/-- A state with a created buffer that holds a black frame. -/
def shown (s : State) : State := { s with pbCreated := true, pb := List.replicate s.cfg.params.npix black }
/-- A state whose next operation is answered so. -/
def answered (a : Answers) (s : State) : State := { s with script := [a] }

/-- A state as the spec's vectors write it, with the trace and what `DELIVER` returned. -/
structure View where
  pending : Bool
  next    : Vec
  latched : Vec
  last    : Millis
  created : Bool
  locked  : Bool
  run     : Run
  trace   : List Event
  result  : Option Vec
deriving DecidableEq

/-- What is seen of an outcome. -/
def seen : Host.Outcome State Fault Refusal → Option View
  | .next t => some ⟨t.pending, t.nextVector, t.latchedVector, t.lastTick, t.pbCreated, t.pbLocked, t.run, t.trace, t.result⟩
  | .fault _ => none
  | .refused _ => none

/-- Answers under which an iteration runs to its fetched operation and the engine writes nothing. -/
def quiet : Answers :=
  { quit := some false, ie := some false, hv := some false, h := some false, op := some 0x00#8, now := some 0#32,
    create := some .ok, lock := some .ok, vecWrites := some [], opWrites := some [] }

/-! ## Well-formed words and boards: each check refuses an ill-formed one -/

/-- V63: reserved operation codes. -/
theorem test_wf_reserved_op :
    wordWf 0xC00000000#36 = false ∧ wordWf 0xE00000000#36 = false ∧ wordWf 0xFFFFFFFFF#36 = false := by decide
/-- V64 to V69: a 1 in a field that must be 0. -/
theorem test_wf_must_be_zero :
    wordWf 0x100000000#36 = false ∧ wordWf 0x200000001#36 = false ∧ wordWf 0x50000000B#36 = false ∧
    wordWf 0x7FFFFFFFF#36 = false ∧ wordWf 0x900000000#36 = false ∧ wordWf 0xB00000000#36 = false := by decide
/-- V63 to V69: the decoder gives the same words no operation. -/
theorem test_decode_refused :
    decode 0xFFFFFFFFF#36 = .reservedOp ∧ decode 0x50000000B#36 = .mustBeZero ∧ decode 0x7FFFFFFFF#36 = .mustBeZero ∧
    decode 0x900000000#36 = .mustBeZero ∧ decode 0x800000001#36 = .mustBeZero ∧ decode 0xB00000000#36 = .mustBeZero := by
  decide
/-- R8: no board without columns, without rows, or with a partial last byte. -/
theorem test_params_shape :
    ({ board42.params with w := 0 } : Params).ok = false ∧ ({ board42.params with h := 0 } : Params).ok = false ∧
    ({ board42.params with w := 3 } : Params).ok = false := by decide
/-- R8, R54: the region ends at the end of memory at the latest; the codes differ; a fatal status is not 0. -/
theorem test_params_bounds :
    ({ board42.params with memSize := 3 } : Params).ok = true ∧ ({ board42.params with memSize := 2 } : Params).ok = false ∧
    ({ board42.params with vecCode2 := 0xCF } : Params).ok = false ∧
    ({ board42.params with exitCreate := 0 } : Params).ok = false := by decide

/-! ## Decoding: words written out from the fields of R88 -/

/-- V57, V58: the operation codes 000 and 001. -/
theorem test_decode_init_iter :
    decode 0b000_0_00000000000000000000000000000000#36 = .instr .init ∧
    decode 0b001_0_00000000000000000000000000000000#36 = .instr .iter := by decide
/-- V59: `TICK 0xDEADBEEF`; and every operand bit by itself at both ends. -/
theorem test_decode_tick :
    decode 0b010_0_11011110101011011011111011101111#36 = .instr (.tick 0xDEADBEEF#32) ∧
    decode 0b010_0_10000000000000000000000000000000#36 = .instr (.tick 0x80000000#32) ∧
    decode 0b010_0_00000000000000000000000000000001#36 = .instr (.tick 1#32) := by decide
/-- V60: `DELIVER 1`, and `DELIVER 0`. -/
theorem test_decode_deliver :
    decode 0b011_1_00000000000000000000000000000000#36 = .instr (.deliver true) ∧
    decode 0b011_0_00000000000000000000000000000000#36 = .instr (.deliver false) := by decide
/-- V61, V62: the operation codes 100 and 101. -/
theorem test_decode_render_shutdown :
    decode 0b100_0_00000000000000000000000000000000#36 = .instr .render ∧
    decode 0b101_0_00000000000000000000000000000000#36 = .instr .shutdown := by decide
/-- R99: the encoder gives the worked words. -/
theorem test_encode_worked :
    encode (.tick 47) = 0x40000002F#36 ∧ encode (.deliver true) = 0x700000000#36 ∧ encode .shutdown = 0xA00000000#36 := by
  decide
/-- The table's numbering: a word in whole bytes, the bits above bit 35 zero. -/
theorem test_decode_table_word :
    decodeTableWord 40 0x40000000B = some (.tick 11) ∧ decodeTableWord 40 0xC00000000 = none ∧
    decodeTableWord 40 0x1000000000 = none := by decide

/-! ## INIT -/

/-- V51. -/
theorem test_init_ok :
    seen (exec .init (answered { init := some .ok } { State.reset with cfg := board42 })) =
      some ⟨false, .v2, .v2, 0, false, false, .running, [.initPresentation], none⟩ := by decide
/-- V50. -/
theorem test_init_fail :
    seen (exec .init (answered { init := some .fail } { State.reset with cfg := board42 })) =
      some ⟨false, .v2, .v2, 0, false, false, .exited 1,
        [.initPresentation, .report .initFailure, .exit 1], none⟩ := by decide

/-! ## ITER -/

/-- P5 line 3: a vector is injected, and one operation fetched and executed all the same. -/
theorem test_iter_injects :
    seen (exec .iter (answered { quiet with ie := some true, op := some 0x22, now := some 12 } (sched true .v1 10))) =
      some ⟨false, .v1, .v1, 10, false, false, .running,
        [.pollQuit, .readIE, .exec 0xCF, .fetch, .exec 0x22, .now], some .v1⟩ := by decide
/-- P5 line 4, the region written by the engine in the same iteration (R62): the render shows it. -/
theorem test_iter_renders_engine_writes :
    seen (exec .iter (answered
      { quiet with op := some 0x33, now := some 21, opWrites := some [(2, 0xA5)] } (sched false .v1 10))) =
      some ⟨true, .v2, .v2, 21, true, false, .running,
        [.pollQuit, .readIE, .fetch, .exec 0x33, .now, .create, .lock, .unlock,
          .present [black, black, white, white, white, white, black, black]], none⟩ := by decide

/-! ## TICK -/

/-- V11 and V2: a crossing across the wrap of the clock; none just below the threshold. -/
theorem test_tick_wrap_and_below :
    seen (exec (.tick 5) (sched false .v2 0xFFFFFFF0)) = some ⟨true, .v1, .v1, 5, false, false, .running, [], none⟩ ∧
    seen (exec (.tick 9) s0) = some ⟨false, .v2, .v2, 0, false, false, .running, [], none⟩ := by decide
/-- P6: a lock failure inside a crossing; `pending` keeps its old value. -/
theorem test_tick_lock_failure :
    seen (exec (.tick 20) (answered { create := some .ok, lock := some .fail } (sched true .v1 10))) =
      some ⟨true, .v2, .v2, 20, false, false, .exited 2,
        [.create, .lock, .report .lockFailure, .releasePixelBuffer, .releasePresentation, .exit 2], none⟩ := by decide

/-! ## DELIVER -/

/-- The unreachable state of section 2.2, `(1, V1, V2, 0)`: the latched value is returned, not the next one (R115). -/
theorem test_deliver_returns_latched :
    seen (exec (.deliver true) { sched true .v1 0 with latchedVector := .v2 }) =
      some ⟨false, .v1, .v2, 0, false, false, .running, [], some .v2⟩ := by decide
/-- V18: a masked request stays. -/
theorem test_deliver_masked :
    seen (exec (.deliver false) (sched true .v1 11)) =
      some ⟨true, .v1, .v1, 11, false, false, .running, [], none⟩ := by decide

/-! ## RENDER -/

/-- V48a: a second render creates nothing and leaves nothing of the old frame. -/
theorem test_render_again :
    seen (exec .render (answered { lock := some .ok, mem := [0x80] } (shown s0))) =
      some ⟨false, .v2, .v2, 0, true, false, .running,
        [.lock, .unlock, .present [black, black, black, white, black, black, black, black]], none⟩ := by decide
/-- P4: the first render on the 4 by 4 display, its two bytes the last of memory. -/
theorem test_render_first :
    seen (exec .render (answered { create := some .ok, lock := some .ok }
      { running board44 with mem := [(6, 0x3C), (7, 0xC3)] })) =
      some ⟨false, .v2, .v2, 0, true, false, .running,
        [.create, .lock, .unlock, .present
          [white, black, black, white, white, black, black, white,
           black, white, white, black, black, white, white, black]], none⟩ := by decide

/-! ## SHUTDOWN -/

/-- P4: teardown after a render. -/
theorem test_shutdown_after_render :
    seen (exec .shutdown (shown s0)) =
      some ⟨false, .v2, .v2, 0, false, false, .exited 0, [.releasePixelBuffer, .releasePresentation, .exit 0], none⟩ := by
  decide
/-- V56: teardown before any render. -/
theorem test_shutdown_before_render :
    seen (exec .shutdown s0) =
      some ⟨false, .v2, .v2, 0, false, false, .exited 0, [.releasePresentation, .exit 0], none⟩ := by decide

/-! ## The mapping and the decode -/

/-- V20, V24, V25, V31, V32 with the known dimensions, and two values of the inverse. -/
theorem test_dest_index :
    let p : Params := { board42.params with w := 224, h := 256 }
    destIndex p 0 = 57120 ∧ destIndex p 255 = 0 ∧ destIndex p 256 = 57121 ∧ destIndex p 57088 = 57343 ∧
    destIndex p 57343 = 223 ∧ srcIndex p 224 = 254 ∧ srcIndex p 57119 = 57089 := by decide
/-- V43: a display whose columns are half a byte high. -/
theorem test_decode_two_columns :
    decodeFrame { board42.params with w := 2, h := 4 } [0x2D] =
      [white, black, white, black, black, white, white, black] := by decide
/-- V46: bit 0 to index 8, bit 9 to index 4. -/
theorem test_decode_two_bytes :
    decodeFrame { board42.params with w := 8, h := 2 } [0x01, 0x02] =
      ((List.replicate 16 black).set 8 white).set 4 white := by decide
/-- R57: the bytes of `BLACK`, least significant first, and the offset of pixel 5 on the 4 by 2 display. -/
theorem test_surface :
    pixelBytes black = [0x00, 0x00, 0x00, 0xFF] ∧ pixelAddr board42.params 100 16 5 = 120 := by decide

/-! ## Memory -/

/-- A write of what an unlisted address reads as removes the entry; others keep their place. -/
theorem test_memory_canonical :
    Memory.set [(1, 0x11), (3, 0x33)] 2 0x22 = [(1, 0x11), (2, 0x22), (3, 0x33)] ∧
    Memory.set [(1, 0x11), (3, 0x33)] 1 0x00 = [(3, 0x33)] ∧ Memory.get [(1, 0x11), (3, 0x33)] 2 = 0x00 := by decide
/-- R50: a write of the engine outside `0 .. MEM_SIZE-1` has no byte to land in. -/
theorem test_engine_writes_inside :
    engineWrites board42.params [] [(7, 0x77), (8, 0x88)] = [(7, 0x77)] := by decide

/-! ## Text (R97, R98) -/

/-- R97's example line. -/
theorem test_text_iter :
    (parseLine "ITER".toList).map (fun l => l.map Prod.fst) = some [.iter] ∧
    parseLine ("ITER ".toList ++ braceOpen :: "quit=0, ie=1, op=0x00, h=0, now=11".toList ++ [braceClose]) =
      some [(.iter, { quit := some false, ie := some true, op := some 0, h := some false, now := some 11 })] := by decide
/-- R98's idiom with a comment, and numbers that are too large. -/
theorem test_text_td :
    parseLine "TD 0x17, 1 ; crossing".toList = some [(.tick 23, {}), (.deliver true, {})] ∧
    parseLine "TICK 4294967296".toList = none ∧ parseLine "DELIVER 2".toList = none := by decide

/-! ## Steps -/

/-- R96, log 11: a placed word runs at once, `INIT` from OFF itself and another operation from the registers `INIT` leaves. -/
theorem test_first_step :
    step (State.reset.withFetchWord 40 0x40000000B) = exec (.tick 11) (initRegisters State.reset) ∧
    step (State.reset.withFetchWord 40 0x000000000) = exec .init State.reset := ⟨rfl, rfl⟩
/-- A reserved word is refused. -/
theorem test_step_refused : step (State.reset.withFetchWord 40 0xC00000000) = .refused .reservedOp := rfl

/-! ## Witnesses: every statement's hypotheses can be met together -/

theorem witness_DecodeOfEncode : (Instr.tick 0xFFFFFFFF).wf = true := by decide
theorem witness_EncodeOfDecode : decode 0x7_00000000#36 = .instr (.deliver true) := by decide
/-- A table row and a word that spells it, the row of the one operand-bearing code with its highest operand. -/
theorem witness_DecodeAgreesWithTable :
    ∃ r ∈ opTable, r.spelledBy 0x4FFFFFFFF#36 = true ∧ r.mnemonic = "TICK" :=
  ⟨⟨"TICK", 0x400000000#36, 0xF00000000#36⟩, by decide⟩
/-- A word for each clause: 110, 111, `INIT` with `ie`, `RENDER` with `now`, `TICK` with `ie`, `DELIVER` with `now`. -/
theorem witness_ReservedWordsAreRefused :
    cwOp 0xC00000000#36 = 6#3 ∧ cwOp 0xE00000000#36 = 7#3 ∧
    (cwOp 0x100000000#36 = 0#3 ∧ cwIe 0x100000000#36 = true) ∧
    (cwOp 0x880000000#36 = 4#3 ∧ cwNow 0x880000000#36 ≠ 0#32) ∧
    (cwOp 0x500000000#36 = 2#3 ∧ cwIe 0x500000000#36 = true) ∧
    (cwOp 0x600000001#36 = 3#3 ∧ cwNow 0x600000001#36 ≠ 0#32) := by decide
theorem witness_StepRunsQueuedOperation :
    ({ s0 with cmds := [0x40000000B#36] } : State).cmds = [0x40000000B#36] ∧ (Instr.tick 11).wf = true ∧
    decode 0x40000000B#36 = .instr (.tick 11) := by decide
theorem witness_StepRunsByItself :
    (s0.cmds = [] ∧ s0.run = .running) ∧ (State.reset.cmds = [] ∧ State.reset.run = .off) ∧
    (({ s0 with run := .exited 2 } : State).cmds = [] ∧ ({ s0 with run := .exited 2 } : State).run = .exited 2) := by decide
theorem witness_AdmissionByRunState :
    admitted .off .init = true ∧ admitted .running .iter = true ∧ admitted .running .init = false ∧
    admitted .off (.tick 11) = false ∧ admitted (.exited 0) .init = false := by decide
theorem witness_ExitedIsTerminal : ∃ s : State, s.run = .exited 0 := ⟨{ s0 with run := .exited 0 }, rfl⟩
theorem witness_InitSetsResetValues : ∃ s : State, s.run = .off ∧ s.env.init = .ok :=
  ⟨answered { init := some .ok } State.reset, by decide⟩
theorem witness_InitFailureExitsOne : ∃ s : State, s.run = .off ∧ s.env.init = .fail :=
  ⟨answered { init := some .fail } State.reset, by decide⟩
theorem witness_ShutdownReleasesAndExits :
    (∃ s : State, s.run = .running ∧ s.pbCreated = true) ∧ ∃ s : State, s.run = .running ∧ s.pbCreated = false :=
  ⟨⟨shown s0, by decide⟩, s0, by decide⟩
/-- Both ways round the clock, at equality and one apart. -/
theorem witness_ElapsedAndCrossing :
    (5#32).toNat ≤ (5#32).toNat ∧ (4#32).toNat < (5#32).toNat ∧ 10 ≤ (elapsed 10 0).toNat := by decide
theorem witness_TickBelowThresholdChangesNothing :
    s0.run = .running ∧ (9#32 - s0.lastTick).toNat < s0.cfg.params.threshold := by decide
theorem witness_TickMakesV1Next :
    s0.run = .running ∧ s0.nextVector = .v2 ∧ s0.cfg.params.threshold ≤ (10#32 - s0.lastTick).toNat := by decide
/-- With the buffer there, and with the buffer still to be created. -/
theorem witness_TickRendersWhenV2BecomesNext :
    (∃ s : State, s.run = .running ∧ s.nextVector = .v1 ∧ s.cfg.params.threshold ≤ (20#32 - s.lastTick).toNat ∧
      s.pbCreated = true ∧ s.pb.length = s.cfg.params.npix ∧ s.env.lock = .ok) ∧
    (∃ s : State, s.run = .running ∧ s.nextVector = .v1 ∧ s.cfg.params.threshold ≤ (20#32 - s.lastTick).toNat ∧
      s.pbCreated = false ∧ s.env.create = .ok ∧ s.env.lock = .ok) :=
  ⟨⟨answered quiet (shown (sched false .v1 10)), by decide⟩, answered quiet (sched false .v1 10), by decide⟩
theorem witness_TickEndsWithFatalRender :
    (∃ s : State, s.run = .running ∧ s.nextVector = .v1 ∧ s.cfg.params.threshold ≤ (20#32 - s.lastTick).toNat ∧
      s.pbCreated = false ∧ s.env.create = .fail) ∧
    (∃ s : State, s.run = .running ∧ s.nextVector = .v1 ∧ s.cfg.params.threshold ≤ (20#32 - s.lastTick).toNat ∧
      s.pbCreated = true ∧ s.env.lock = .fail) ∧
    (∃ s : State, s.run = .running ∧ s.nextVector = .v1 ∧ s.cfg.params.threshold ≤ (20#32 - s.lastTick).toNat ∧
      s.env.create = .ok ∧ s.env.lock = .fail) :=
  ⟨⟨answered { create := some .fail } (sched true .v1 10), by decide⟩,
   ⟨answered { lock := some .fail } (shown (sched true .v1 10)), by decide⟩,
   answered { create := some .ok, lock := some .fail } (sched true .v1 10), by decide⟩
/-- Pending and enabled; pending and masked; nothing pending. -/
theorem witness_DeliverReturnsSnapshotOrNothing :
    (∃ s : State, s.run = .running ∧ s.pending = true) ∧ ∃ s : State, s.run = .running ∧ s.pending = false :=
  ⟨⟨sched true .v1 11, by decide⟩, s0, by decide⟩
/-- Without and with a masked attempt before the delivery. -/
theorem witness_MaskedRequestIsDeferred :
    (∃ s : State, s.run = .running ∧ s.pending = true ∧ s.cmds = [encode (.deliver true)]) ∧
    ∃ s : State, s.run = .running ∧ s.pending = true ∧
      s.cmds = List.replicate 2 (encode (.deliver false)) ++ [encode (.deliver true)] :=
  ⟨⟨{ sched true .v1 11 with cmds := [encode (.deliver true)] }, rfl, rfl, rfl⟩,
   { sched true .v1 11 with cmds := List.replicate 2 (encode (.deliver false)) ++ [encode (.deliver true)] }, rfl, rfl, rfl⟩
/-- The crossings of P3. -/
theorem witness_MergedRequestsRepeatAVector :
    ∃ s : State, s.run = .running ∧ s.nextVector = .v2 ∧
      allCross s.cfg.params.threshold s.lastTick [10, 20, 30] = true ∧
      s.cmds = [encode (.tick 10), encode (.deliver true), encode (.tick 20), encode (.deliver false), encode (.tick 30),
        encode (.deliver true)] ++ [] ∧
      (∀ x ∈ s.script.take 6, x.create = some .ok ∧ x.lock = some .ok) ∧ 6 ≤ s.script.length :=
  ⟨{ s0 with
      cmds := [encode (.tick 10), encode (.deliver true), encode (.tick 20), encode (.deliver false), encode (.tick 30),
        encode (.deliver true)]
      script := List.replicate 6 quiet }, by decide⟩
theorem witness_RenderPresentsDecodedFrame :
    (∃ s : State, s.run = .running ∧ s.pbCreated = true ∧ s.pb.length = s.cfg.params.npix ∧ s.env.lock = .ok) ∧
    ∃ s : State, s.run = .running ∧ s.pbCreated = false ∧ s.env.create = .ok ∧ s.env.lock = .ok :=
  ⟨⟨answered quiet (shown s0), by decide⟩, answered quiet s0, by decide⟩
theorem witness_LockFailureIsFatal :
    (∃ s : State, s.run = .running ∧ s.pbCreated = true ∧ s.env.lock = .fail) ∧
    ∃ s : State, s.run = .running ∧ s.pbCreated = false ∧ s.env.create = .ok ∧ s.env.lock = .fail :=
  ⟨⟨answered { lock := some .fail } (shown s0), by decide⟩,
   answered { create := some .ok, lock := some .fail } s0, by decide⟩
theorem witness_CreateFailureIsFatal : ∃ s : State, s.run = .running ∧ s.pbCreated = false ∧ s.env.create = .fail :=
  ⟨answered { create := some .fail } s0, by decide⟩
/-- The last index of a display; a board and an old buffer; a height of whole bytes, its last byte and lane. -/
theorem witness_DecoderStaysInBounds : 7 < board42.params.npix ∧ 0 < board38.params.npix := by decide
theorem witness_MappingIsBijection : 15 < board44.params.npix := by decide
theorem witness_DecodeLoopIsDecode : (List.replicate 8 white).length = board42.params.npix := by decide
theorem witness_EachBitDecidesItsPixel : 7 < board42.params.npix := by decide
/-- The last byte of a region of two: left out by an empty list and by a list of one, and named by a list of two. -/
theorem witness_RegionBitsComeFromMemory :
    let s : State := { running board44 with mem := [(6, 0x3C), (7, 0xC3)] }
    let e : List Byte → Env := fun m => State.env (answered { quiet with mem := m } s0)
    15 < s.cfg.params.npix ∧ (e []).mem.length ≤ 15 / 8 ∧ bitOf (region (e []) s) 15 = true ∧
      (e [0xFF]).mem.length ≤ 15 / 8 ∧ bitOf (region (e [0xFF]) s) 13 = false ∧
      (e [0xFF, 0x00]).mem[15 / 8]? = some 0x00 ∧ bitOf (region (e [0xFF, 0x00]) s) 15 = false := by decide
theorem witness_SingleBitIsOnePixel : 15 < board44.params.npix ∧ 14 < board44.params.npix ∧ 14 ≠ destIndex board44.params 15 := by
  decide
theorem witness_ByteLanesGoUpOneColumn : board38.params.h % 8 = 0 ∧ 2 < board38.params.vramLen ∧ 7 < 8 := by decide
theorem witness_SurfaceIsLinear : [white, black][1]? = some black ∧ 3 < 4 := by decide
theorem witness_QuitEndsBeforeAnything : ∃ s : State, s.run = .running ∧ s.env.quit = true :=
  ⟨answered { quit := some true } (sched true .v2 20), by decide⟩
theorem witness_VectorHaltEndsRun :
    ∃ s : State, s.run = .running ∧ s.env.quit = false ∧ s.pending = true ∧ s.env.ie = true ∧ s.env.hv = true :=
  ⟨answered { quiet with ie := some true, hv := some true } (sched true .v1 10), by decide⟩
theorem witness_OperationHaltEndsRun :
    (∃ s : State, s.run = .running ∧ s.env.quit = false ∧ s.env.h = true ∧ s.pending = false ∧ s.env.ie = true) ∧
    (∃ s : State, s.run = .running ∧ s.env.quit = false ∧ s.env.h = true ∧ s.pending = true ∧ s.env.ie = false) ∧
    (∃ s : State, s.run = .running ∧ s.env.quit = false ∧ s.env.h = true ∧ s.pending = true ∧ s.env.ie = true ∧
      s.env.hv = false) :=
  ⟨⟨answered { quiet with ie := some true, h := some true } s0, by decide⟩,
   ⟨answered { quiet with h := some true } (sched true .v1 10), by decide⟩,
   answered { quiet with ie := some true, h := some true } (sched true .v1 10), by decide⟩
/-- Below the threshold, and at it. -/
theorem witness_IterationWithoutVector :
    (∃ s : State, s.run = .running ∧ s.env.quit = false ∧ s.pending = false ∧ s.env.h = false ∧
      (s.env.now - s.lastTick).toNat < s.cfg.params.threshold) ∧
    (∃ s : State, s.run = .running ∧ s.env.quit = false ∧ s.env.ie = false ∧ s.env.h = false ∧
      s.cfg.params.threshold ≤ (s.env.now - s.lastTick).toNat) :=
  ⟨⟨answered { quiet with now := some 9 } s0, by decide⟩, answered { quiet with now := some 10 } s0, by decide⟩
theorem witness_IterationWithVector :
    (∃ s : State, s.run = .running ∧ s.env.quit = false ∧ s.pending = true ∧ s.env.ie = true ∧ s.env.hv = false ∧
      s.env.h = false ∧ (s.env.now - s.lastTick).toNat < s.cfg.params.threshold) ∧
    (∃ s : State, s.run = .running ∧ s.env.quit = false ∧ s.pending = true ∧ s.env.ie = true ∧ s.env.hv = false ∧
      s.env.h = false ∧ s.cfg.params.threshold ≤ (s.env.now - s.lastTick).toNat) :=
  ⟨⟨answered { quiet with ie := some true, now := some 12 } (sched true .v1 10), by decide⟩,
   answered { quiet with ie := some true, now := some 20 } (sched true .v1 10), by decide⟩
/-- Without a vector delivered, the buffer still to be created; and with one, each of the two `Exec`s writing. -/
theorem witness_RenderSeesEngineWrites :
    (∃ s : State, s.run = .running ∧ s.env.quit = false ∧ s.pending = false ∧ s.env.h = false ∧ s.nextVector = .v1 ∧
      s.cfg.params.threshold ≤ (s.env.now - s.lastTick).toNat ∧ s.pbCreated = false ∧ s.env.create = .ok ∧
      s.env.lock = .ok) ∧
    (∃ s : State, s.run = .running ∧ s.env.quit = false ∧ s.pending = true ∧ s.env.ie = true ∧ s.env.hv = false ∧
      s.env.h = false ∧ s.nextVector = .v1 ∧ s.cfg.params.threshold ≤ (s.env.now - s.lastTick).toNat ∧
      s.pbCreated = true ∧ s.pb.length = s.cfg.params.npix ∧ s.env.lock = .ok ∧ s.env.vecWrites = [(2, 0x5A)] ∧
      s.env.opWrites = [(2, 0xA5)]) :=
  ⟨⟨answered { quiet with now := some 20, opWrites := some [(2, 0xA5)] } (sched false .v1 10), by decide⟩,
   answered { quiet with ie := some true, now := some 20, vecWrites := some [(2, 0x5A)], opWrites := some [(2, 0xA5)] }
     (shown (sched true .v1 10)), by decide⟩
theorem witness_IterationTransactionCounts : ∃ s t : State, exec .iter s = .next t ∧ t.run = .running :=
  ⟨answered quiet s0, _, rfl, by decide⟩
/-- P1's four crossings. -/
theorem witness_RenderEverySecondCrossing :
    ∃ s : State, s.run = .running ∧ s.nextVector = .v2 ∧
      s.cmds = [11#32, 23#32, 35#32, 47#32].map (fun n => encode (.tick n)) ++ [] ∧ 4 ≤ s.script.length ∧
      (∀ a ∈ s.script.take 4, a.create = some .ok ∧ a.lock = some .ok) ∧
      allCross s.cfg.params.threshold s.lastTick [11, 23, 35, 47] = true :=
  ⟨{ s0 with
      cmds := [11#32, 23#32, 35#32, 47#32].map (fun n => encode (.tick n))
      script := List.replicate 4 quiet }, by decide⟩
/-- A state and its next, once with a crossing and once without. -/
theorem witness_OnlyCrossingsMoveTheScheduler :
    (∃ t, exec (.tick 10) s0 = .next t ∧ Instr.tick 10 ≠ .init ∧ t.lastTick = 10) ∧
    ∃ t, exec (.tick 9) s0 = .next t ∧ Instr.tick 9 ≠ .init ∧ t.lastTick = 0 :=
  ⟨⟨_, rfl, by decide, by decide⟩, _, rfl, by decide, by decide⟩
theorem witness_RequestClearedOnlyByDelivery :
    (∃ s t : State, exec (.deliver true) s = .next t ∧ s.run = .running ∧ s.pending = true ∧ t.pending = false) ∧
    ∃ s t : State, exec .iter s = .next t ∧ s.run = .running ∧ s.pending = true ∧ t.pending = false :=
  ⟨⟨sched true .v1 11, _, rfl, by decide, by decide, by decide⟩,
   answered { quiet with ie := some true, now := some 12 } (sched true .v1 10), _, rfl, by decide, by decide, by decide⟩
theorem witness_TimestampMovesForward :
    ∃ t, exec (.tick 11) s0 = .next t ∧ s0.run = .running ∧ s0.lastTick.toNat ≤ (11#32).toNat :=
  ⟨_, rfl, by decide, by decide⟩
theorem witness_ParametersNeverChange : ∃ t, step { s0 with cmds := [encode (.deliver true)] } = .next t := ⟨_, rfl⟩
/-- An iteration whose engine writes one byte, and an address it does not write. -/
theorem witness_OnlyTheEngineWritesMemory :
    ∃ s t : State, exec .iter s = .next t ∧ (∀ c ∈ s.env.vecWrites ++ s.env.opWrites, c.1 ≠ 3) ∧ t.mem.get 2 = 0xA5 :=
  ⟨answered { quiet with opWrites := some [(2, 0xA5)] } s0, _, rfl, by decide, by decide⟩
/-- Two memories under which the frames differ. -/
theorem witness_MemoryReachesOnlyPixels :
    ∃ t u, exec .render (answered quiet s0) = .next t ∧
      exec .render { answered quiet s0 with mem := [(2, 0xA5)] } = .next u ∧ t.pb ≠ u.pb :=
  ⟨_, _, rfl, rfl, by decide⟩
/-- Two memories that differ only outside the region, which is the byte at address 2. -/
theorem witness_OnlyTheVideoRegionIsRead :
    ∃ (s t : State) (m : Memory), Instr.render ≠ .iter ∧ exec .render s = .next t ∧ m ≠ s.mem ∧
      ∀ a, s.cfg.params.vramBase ≤ a → a < s.cfg.params.vramBase + s.cfg.params.vramLen → m.get a = s.mem.get a := by
  refine ⟨answered quiet { s0 with mem := [(2, 0xA5)] }, _, [(2, 0xA5), (3, 0x11)], by decide, rfl, by decide, ?_⟩
  intro a h1 h2
  have : a = 2 := by
    change 2 ≤ a at h1
    change a < 2 + 1 at h2
    omega
  subst this
  decide
theorem witness_MemoryReadsBack : Memory.wf [(1, 0x11), (3, 0x33)] = true := by decide
theorem witness_CanonicalMemoryIsUnique :
    Memory.wf [(1, 0x11)] = true ∧ ∀ a, Memory.get [(1, 0x11)] a = Memory.get [(1, 0x11)] a := ⟨by decide, fun _ => rfl⟩

/-- A running block whose buffer is a black frame meets the invariant. -/
theorem witness_inv : Inv (shown (sched true .v1 10)) where
  latched := by decide
  unlocked := by decide
  absent := by decide
  frame _ := ⟨by decide, fun _ hv => .inr (List.eq_of_mem_replicate hv)⟩
  released := by decide
  memWf := by decide
  memIn := by simp [MemInside, shown, sched, s0, running, State.reset]
theorem witness_StepKeepsInvariant :
    ∃ s t : State, Inv s ∧ step s = .next t :=
  ⟨{ shown (sched true .v1 10) with cmds := [encode .shutdown] }, _, { witness_inv with }, rfl⟩
theorem witness_StepKeepsTraceOrder :
    ∃ s t : State, Inv s ∧ TraceOk s ∧ step s = .next t :=
  ⟨{ shown (sched true .v1 10) with cmds := [encode .shutdown] }, _, { witness_inv with },
   { inOrder := by decide, before := by decide, during := by simp [shown, sched, s0, running, State.reset]
     after := by simp [shown, sched, s0, running], frames := by simp [shown, sched, s0, running, State.reset] }, rfl⟩

end Sys2Proof.Tests
end

section
/-! The parameters are constants: no operation of the block writes them (spec/00_scope.md R9). -/

namespace Sys2Proof.Machine

/-! ## The phases of `ITER` before its `TICK` -/

@[simp] theorem delivered_cfg (e : Env) (s : State) : (delivered e s).cfg = s.cfg := by simp [delivered]

@[simp] theorem beforeFetch_cfg (e : Env) (s : State) : (beforeFetch e s).cfg = s.cfg := by
  unfold beforeFetch
  split
  · simp
  · simp

@[simp] theorem fetched_cfg (e : Env) (s : State) : (fetched e s).cfg = s.cfg := by simp [fetched]

/-! ## The operations -/

@[simp] theorem render_state_cfg (e : Env) (s : State) : (render e s).state.cfg = s.cfg := (render_keeps e s).1

@[simp] theorem initBlock_cfg (e : Env) (s : State) : (initBlock e s).cfg = s.cfg := by
  refine initBlock_cases (P := fun t => t.cfg = s.cfg) e s ?fails ?starts
  case fails => intro _; simp
  case starts => intro _; simp

@[simp] theorem tick_cfg (e : Env) (now : Millis) (s : State) : (tick e now s).cfg = s.cfg := by
  have hrender := render_state_cfg e (latchCrossing now s)
  refine tick_cases (P := fun t => t.cfg = s.cfg) e now s ?idle ?odd ?even ?fatal
  case idle => intro _; rfl
  case odd => intro _ _; simp
  case even => intro t _ _ hr; simpa [hr, RenderEnd.state] using hrender
  case fatal => intro t _ _ hr; simpa [hr, RenderEnd.state] using hrender

@[simp] theorem iterate_cfg (e : Env) (s : State) : (iterate e s).cfg = s.cfg := by
  refine iterate_cases (P := fun t => t.cfg = s.cfg) e s ?quit ?vecHalt ?opHalt ?whole
  case quit => intro _; simp
  case vecHalt => intro x _ _ _; simp
  case opHalt => intro _ _ _; simp
  case whole => intro _ _ _; simp

/-- R9, for an operation. -/
theorem exec_next_cfg {i : Instr} {s t : State} (h : exec i s = .next t) : t.cfg = s.cfg := by
  obtain ⟨-, -, rfl⟩ | ⟨-, -, rfl⟩ | ⟨now, -, -, rfl⟩ | ⟨ie, -, -, rfl⟩ | ⟨-, -, rfl⟩ | ⟨-, -, rfl⟩ := exec_next_cases h
  · exact initBlock_cfg _ _
  · exact iterate_cfg _ _
  · exact tick_cfg _ _ _
  · exact deliver_cfg _ _
  · exact render_state_cfg _ _
  · exact shutdown_cfg _

/-- Settles O44: a step runs one operation, from the state itself or from the state less its first queued word, and no
operation writes the parameters. -/
theorem parametersNeverChange : Obligations.ParametersNeverChange := by
  intro s t h
  obtain ⟨i, u, hexec, hu⟩ := step_next h
  have hqueue : u.cfg = s.cfg := by
    obtain rfl | ⟨w, rest, -, -, rfl⟩ := hu
    · rfl
    · rfl
  exact (exec_next_cfg hexec).trans hqueue

end Sys2Proof.Machine
end

section
/-! The mapping of source bits to pixels is a bijection of the pixel indices (spec/41_video_decoder.md R133, R134), so the
loop of pixel writes leaves the pure function's frame whatever the buffer held (R137, R144). -/

namespace Sys2Proof.Machine

/-- R8: a display has a column and a row. -/
theorem one_le_w_and_h (b : Board) : 1 ≤ b.params.w ∧ 1 ≤ b.params.h := by
  have h := b.isOk
  simp only [Params.ok, Bool.and_eq_true, decide_eq_true_eq] at h
  omega

theorem srcCol_lt (b : Board) {i : Nat} (hi : i < b.params.npix) : srcCol b.params i < b.params.w :=
  Nat.div_lt_of_lt_mul (by rwa [Nat.mul_comm])

theorem srcRow_lt (b : Board) (i : Nat) : srcRow b.params i < b.params.h := Nat.mod_lt _ (one_le_w_and_h b).2

/-- A row counted from the other side is a row. -/
theorem flipRow_lt (b : Board) (r : Nat) : b.params.h - 1 - r < b.params.h := by
  have hh := (one_le_w_and_h b).2
  omega

/-- An index formed of a row and a column in range is in range. -/
theorem rowMajor_lt {rows cols r c : Nat} (hr : r < rows) (hc : c < cols) : r * cols + c < rows * cols := by
  calc r * cols + c < r * cols + cols := by omega
    _ = (r + 1) * cols := (Nat.succ_mul r cols).symm
    _ ≤ rows * cols := Nat.mul_le_mul_right cols hr

theorem rowMajor_mod {cols r c : Nat} (hc : c < cols) : (r * cols + c) % cols = c := by
  rw [Nat.mul_add_mod_self_right, Nat.mod_eq_of_lt hc]

theorem rowMajor_div {cols r c : Nat} (hc : c < cols) : (r * cols + c) / cols = r := by
  rw [Nat.add_comm, Nat.add_mul_div_right _ _ (by omega), Nat.div_eq_of_lt hc, Nat.zero_add]

theorem destIndex_lt (b : Board) {i : Nat} (hi : i < b.params.npix) : destIndex b.params i < b.params.npix := by
  rw [Params.npix, Nat.mul_comm]
  exact rowMajor_lt (flipRow_lt b _) (srcCol_lt b hi)

theorem srcIndex_lt (b : Board) (k : Nat) : srcIndex b.params k < b.params.npix :=
  rowMajor_lt (Nat.mod_lt _ (one_le_w_and_h b).1) (flipRow_lt b _)

/-- R134: `src_index` undoes `dest_index`. -/
theorem srcIndex_destIndex (b : Board) {i : Nat} (hi : i < b.params.npix) : srcIndex b.params (destIndex b.params i) = i := by
  have hrow := srcRow_lt b i
  have hcol := srcCol_lt b hi
  rw [srcIndex, destIndex, rowMajor_mod hcol, rowMajor_div hcol,
    show b.params.h - 1 - (b.params.h - 1 - srcRow b.params i) = srcRow b.params i by omega]
  exact Nat.div_add_mod' i b.params.h

/-- R134: `dest_index` undoes `src_index`. -/
theorem destIndex_srcIndex (b : Board) {k : Nat} (hk : k < b.params.npix) : destIndex b.params (srcIndex b.params k) = k := by
  have hrow : k / b.params.w < b.params.h := Nat.div_lt_of_lt_mul hk
  have hlow := flipRow_lt b (k / b.params.w)
  rw [destIndex, srcRow, srcCol, srcIndex, rowMajor_mod hlow, rowMajor_div hlow,
    show b.params.h - 1 - (b.params.h - 1 - k / b.params.w) = k / b.params.w by omega]
  exact Nat.div_add_mod' k b.params.w

/-- The first `n` pixel writes settle exactly the words whose source bit is below `n`. -/
theorem getElem?_foldl_pixWrite (b : Board) (m : List Byte) (old : List Pixel) {k : Nat} (hold : old.length = b.params.npix)
    (hk : k < b.params.npix) (n : Nat) (hn : n ≤ b.params.npix) :
    ((List.range n).foldl (fun f i => pixWrite f (destIndex b.params i) (pix (bitOf m i))) old)[k]? =
      if srcIndex b.params k < n then some (pix (bitOf m (srcIndex b.params k))) else old[k]? := by
  induction n with
  | zero => simp
  | succ n ih =>
    rw [List.range_succ, List.foldl_append, List.foldl_cons, List.foldl_nil, pixWrite, List.getElem?_set,
      ih (by omega), foldl_pixWrite_length, hold]
    by_cases hd : destIndex b.params n = k
    · have hs : srcIndex b.params k = n := hd ▸ srcIndex_destIndex b hn
      simp [hd, hk, hs]
    · have hs : srcIndex b.params k ≠ n := fun h => hd (h ▸ destIndex_srcIndex b hk)
      simp only [hd, if_false, show srcIndex b.params k < n + 1 ↔ srcIndex b.params k < n by omega]

/-- The decode loop over a buffer of `NPIX` words leaves the pure function's frame. -/
theorem writePixels_eq_decodeFrame (b : Board) (m : List Byte) {old : List Pixel} (hold : old.length = b.params.npix) :
    writePixels b.params m old = decodeFrame b.params m := by
  apply List.ext_getElem?
  intro k
  by_cases hk : k < b.params.npix
  · rw [writePixels, getElem?_foldl_pixWrite b m old hold hk _ le_rfl, if_pos (srcIndex_lt b k)]
    simp [decodeFrame, hk]
  · rw [List.getElem?_eq_none (by simpa [hold] using hk), List.getElem?_eq_none (by simpa using hk)]

/-- A draw into a buffer of `NPIX` words leaves the decode of the region in it. -/
theorem drawn_pb_eq_decodeFrame (e : Env) {u : State} (hc : u.pbCreated = true) (hlen : u.pb.length = u.cfg.params.npix) :
    (drawn e u).pb = decodeFrame u.cfg.params (region e u) := by
  rw [drawn_pb e u hc, writePixels_eq_decodeFrame u.cfg _ hlen]

end Sys2Proof.Machine
end

section
/-! What the phases of `ITER` before its `TICK` do to the registers and the trace (spec/42_control_loop.md R163). -/

namespace Sys2Proof.Machine

/-! ## After `DELIVER` -/

@[simp] theorem delivered_run (e : Env) (s : State) : (delivered e s).run = s.run := by simp [delivered]
@[simp] theorem delivered_pending (e : Env) (s : State) : (delivered e s).pending = (s.pending && !e.ie) := by
  simp [delivered]
@[simp] theorem delivered_result (e : Env) (s : State) :
    (delivered e s).result = cond (s.pending && e.ie) (some s.latchedVector) none := by simp [delivered]
@[simp] theorem delivered_nextVector (e : Env) (s : State) : (delivered e s).nextVector = s.nextVector := by
  simp [delivered]
@[simp] theorem delivered_latchedVector (e : Env) (s : State) : (delivered e s).latchedVector = s.latchedVector := by
  simp [delivered]
@[simp] theorem delivered_lastTick (e : Env) (s : State) : (delivered e s).lastTick = s.lastTick := by simp [delivered]

/-! ## Before the fetch -/

/-- `ITER` fetches straight after `DELIVER`, or after the engine has executed the vector delivered. -/
theorem beforeFetch_cases {P : State → Prop} (e : Env) (s : State) (plain : P (delivered e s))
    (vector : ∀ x, (delivered e s).result = some x → P (execEngine (vecCode s.cfg.params x) e.vecWrites (delivered e s))) :
    P (beforeFetch e s) := by
  unfold beforeFetch
  split
  case h_1 x hx => exact vector x hx
  case h_2 => exact plain

@[simp] theorem beforeFetch_run (e : Env) (s : State) : (beforeFetch e s).run = s.run := by
  refine beforeFetch_cases (P := fun u => u.run = s.run) e s ?_ fun x _ => ?_ <;> simp
@[simp] theorem beforeFetch_pending (e : Env) (s : State) : (beforeFetch e s).pending = (s.pending && !e.ie) := by
  refine beforeFetch_cases (P := fun u => u.pending = (s.pending && !e.ie)) e s ?_ fun x _ => ?_ <;> simp
@[simp] theorem beforeFetch_result (e : Env) (s : State) : (beforeFetch e s).result = (delivered e s).result := by
  refine beforeFetch_cases (P := fun u => u.result = (delivered e s).result) e s rfl fun x _ => ?_
  exact execEngine_result _ _ _
@[simp] theorem beforeFetch_nextVector (e : Env) (s : State) : (beforeFetch e s).nextVector = s.nextVector := by
  refine beforeFetch_cases (P := fun u => u.nextVector = s.nextVector) e s ?_ fun x _ => ?_ <;> simp
@[simp] theorem beforeFetch_latchedVector (e : Env) (s : State) : (beforeFetch e s).latchedVector = s.latchedVector := by
  refine beforeFetch_cases (P := fun u => u.latchedVector = s.latchedVector) e s ?_ fun x _ => ?_ <;> simp
@[simp] theorem beforeFetch_lastTick (e : Env) (s : State) : (beforeFetch e s).lastTick = s.lastTick := by
  refine beforeFetch_cases (P := fun u => u.lastTick = s.lastTick) e s ?_ fun x _ => ?_ <;> simp

/-! ## After the fetched operation -/

@[simp] theorem fetched_run (e : Env) (s : State) : (fetched e s).run = s.run := by simp [fetched]
@[simp] theorem fetched_pending (e : Env) (s : State) : (fetched e s).pending = (s.pending && !e.ie) := by simp [fetched]
@[simp] theorem fetched_result (e : Env) (s : State) : (fetched e s).result = (delivered e s).result := by
  simp only [fetched, execEngine_result, State.emit_result, beforeFetch_result]
@[simp] theorem fetched_nextVector (e : Env) (s : State) : (fetched e s).nextVector = s.nextVector := by simp [fetched]
@[simp] theorem fetched_latchedVector (e : Env) (s : State) : (fetched e s).latchedVector = s.latchedVector := by
  simp [fetched]
@[simp] theorem fetched_lastTick (e : Env) (s : State) : (fetched e s).lastTick = s.lastTick := by simp [fetched]

end Sys2Proof.Machine
end

section
/-! What moves the scheduler's registers (spec/10_state.md R21 to R25, R38), and that nothing moves after the end of the run
(R29). -/

namespace Sys2Proof.Machine

/-! ## `RENDER` leaves the scheduler alone -/

@[simp] theorem render_state_pending (e : Env) (s : State) : (render e s).state.pending = s.pending := by
  simp [render_keeps e s]
@[simp] theorem render_state_nextVector (e : Env) (s : State) : (render e s).state.nextVector = s.nextVector := by
  simp [render_keeps e s]
@[simp] theorem render_state_latchedVector (e : Env) (s : State) : (render e s).state.latchedVector = s.latchedVector := by
  simp [render_keeps e s]
@[simp] theorem render_state_lastTick (e : Env) (s : State) : (render e s).state.lastTick = s.lastTick := by
  simp [render_keeps e s]
@[simp] theorem render_state_result (e : Env) (s : State) : (render e s).state.result = s.result := by
  simp [render_keeps e s]

/-! ## The vector, the snapshot and the time -/

/-- The vector, the snapshot and the time are as before. -/
def KeepsScheduler (s t : State) : Prop :=
  t.nextVector = s.nextVector ∧ t.latchedVector = s.latchedVector ∧ t.lastTick = s.lastTick

/-- The sample is a crossing, and the vector, the snapshot and the time are as it makes them (R111). -/
def CrossesAt (now : Millis) (s t : State) : Prop :=
  s.cfg.params.threshold ≤ (now - s.lastTick).toNat ∧
    t.nextVector = s.nextVector.toggle ∧ t.latchedVector = t.nextVector ∧ t.lastTick = now

theorem KeepsScheduler.then_keeps {s u t : State} (h : KeepsScheduler s u) (hu : KeepsScheduler u t) : KeepsScheduler s t := by
  obtain ⟨hnext, hlatched, hlast⟩ := h
  rwa [KeepsScheduler, hnext, hlatched, hlast] at hu

/-- Of the state before a crossing only the parameters and the three registers count. -/
theorem KeepsScheduler.then_crosses {now : Millis} {s u t : State} (h : KeepsScheduler s u) (hcfg : u.cfg = s.cfg)
    (hu : CrossesAt now u t) : CrossesAt now s t := by
  obtain ⟨hnext, -, hlast⟩ := h
  rwa [CrossesAt, hcfg, hnext, hlast] at hu

/-- A render leaves the scheduler's registers as the crossing wrote them. -/
theorem crossesAt_of_render {e : Env} {now : Millis} {s : State}
    (hc : crossing s.cfg.params.threshold now s.lastTick = true) {r : RenderEnd}
    (hr : render e (latchCrossing now s) = r) : CrossesAt now s r.state := by
  subst hr
  exact ⟨crossing_iff.1 hc, by simp, by simp, by simp⟩

/-- `TICK` keeps the three registers, or writes all three at a crossing. -/
theorem tick_scheduler (e : Env) (now : Millis) (s : State) :
    KeepsScheduler s (tick e now s) ∨ CrossesAt now s (tick e now s) := by
  refine tick_cases (P := fun t => KeepsScheduler s t ∨ CrossesAt now s t) e now s ?idle ?odd ?even ?fatal
  case idle => intro _; exact .inl ⟨rfl, rfl, rfl⟩
  case odd => intro hc _; exact .inr ⟨crossing_iff.1 hc, rfl, rfl, rfl⟩
  case even => intro t hc _ hr; exact .inr (crossesAt_of_render hc hr)
  case fatal => intro t hc _ hr; exact .inr (crossesAt_of_render hc hr)

/-- `ITER` moves the three registers as its `TICK` does, if it comes to it. -/
theorem iterate_scheduler (e : Env) (s : State) :
    KeepsScheduler s (iterate e s) ∨ CrossesAt e.now s (iterate e s) := by
  refine iterate_cases (P := fun t => KeepsScheduler s t ∨ CrossesAt e.now s t) e s ?quit ?vecHalt ?opHalt ?whole
  case quit => intro _; left; simp [KeepsScheduler]
  case vecHalt => intro x _ _ _; left; simp [KeepsScheduler]
  case opHalt => intro _ _ _; left; simp [KeepsScheduler]
  case whole =>
    intro _ _ _
    have hkeeps : KeepsScheduler s ((fetched e s).emit .now) := by simp [KeepsScheduler]
    exact (tick_scheduler e e.now ((fetched e s).emit .now)).imp hkeeps.then_keeps (hkeeps.then_crosses (by simp))

/-- Settles O41: the three registers move in `TICK` only, directly or inside `ITER`. -/
theorem onlyCrossingsMoveTheScheduler : Obligations.OnlyCrossingsMoveTheScheduler := by
  intro i s t h hinit
  obtain ⟨rfl, -, -⟩ | ⟨rfl, -, rfl⟩ | ⟨now, rfl, -, rfl⟩ | ⟨ie, rfl, -, rfl⟩ | ⟨rfl, -, rfl⟩ | ⟨rfl, -, rfl⟩ :=
    exec_next_cases h
  · exact absurd rfl hinit
  · exact (iterate_scheduler s.env s.begun).imp id fun hcross => ⟨s.env.now, .inr ⟨rfl, rfl⟩, hcross⟩
  · exact (tick_scheduler s.env now s.begun).imp id fun hcross => ⟨now, .inl rfl, hcross⟩
  · left; simp
  · left; simp
  · left; simp

/-- Settles O43: a time that moved is the sample of a crossing, which the premise puts at or after the old one. -/
theorem timestampMovesForward : Obligations.TimestampMovesForward := by
  intro i s t h hrun htick hiter
  have hinit : i ≠ .init := by
    rintro rfl
    have hoff := (execInit_next.1 h).1
    simp [hrun] at hoff
  obtain ⟨-, -, hlast⟩ | ⟨now, hi, -, -, -, hlast⟩ := onlyCrossingsMoveTheScheduler i s t h hinit
  · exact hlast ▸ le_rfl
  · rw [hlast]
    obtain hi | ⟨hi, rfl⟩ := hi
    · exact htick now hi
    · exact hiter hi

/-! ## The request -/

/-- `TICK` never clears a request. -/
theorem tick_keeps_request (e : Env) (now : Millis) {s : State} (h : s.pending = true) :
    (tick e now s).pending = true := by
  have hrender : (render e (latchCrossing now s)).state.pending = true := by simpa using h
  refine tick_cases (P := fun t => t.pending = true) e now s ?idle ?odd ?even ?fatal
  case idle => intro _; exact h
  case odd => intro _ _; rfl
  case even => intro t _ _ _; rfl
  case fatal => intro t _ _ hr; rwa [hr] at hrender

/-- `TICK` leaves what the last `DELIVER` returned. -/
@[simp] theorem tick_result (e : Env) (now : Millis) (s : State) : (tick e now s).result = s.result := by
  have hrender : (render e (latchCrossing now s)).state.result = s.result := by simp
  refine tick_cases (P := fun t => t.result = s.result) e now s ?idle ?odd ?even ?fatal
  case idle => intro _; rfl
  case odd => intro _ _; rfl
  case even => intro t _ _ hr; rwa [hr] at hrender
  case fatal => intro t _ _ hr; rwa [hr] at hrender

/-- An `ITER` that clears a request found the engine enabled and delivered the snapshot. -/
theorem iterate_clears_request (e : Env) {s : State} (h : s.pending = true) :
    (iterate e s).pending = false → e.ie = true ∧ (iterate e s).result = some s.latchedVector := by
  refine iterate_cases (P := fun t => t.pending = false → e.ie = true ∧ t.result = some s.latchedVector) e s
    ?quit ?vecHalt ?opHalt ?whole
  case quit => intro _ hclear; simp [h] at hclear
  case vecHalt =>
    intro x _ _ _ hclear
    have hie : e.ie = true := by simpa [h] using hclear
    exact ⟨hie, by simp [h, hie]⟩
  case opHalt =>
    intro _ _ _ hclear
    have hie : e.ie = true := by simpa [h] using hclear
    exact ⟨hie, by simp [h, hie]⟩
  case whole =>
    intro _ _ _ hclear
    have hie : e.ie = true := by
      by_contra hmasked
      have hkept := tick_keeps_request e e.now (s := (fetched e s).emit .now) (by simp [h, hmasked])
      simp [hkept] at hclear
    exact ⟨hie, by simp [h, hie]⟩

/-- Settles O42: of the operations only `DELIVER`, directly or inside `ITER`, clears a request. -/
theorem requestClearedOnlyByDelivery : Obligations.RequestClearedOnlyByDelivery := by
  intro i s t h hrun hpending hclear
  obtain ⟨rfl, hoff, -⟩ | ⟨rfl, -, rfl⟩ | ⟨now, rfl, -, rfl⟩ | ⟨ie, rfl, -, rfl⟩ | ⟨rfl, -, rfl⟩ | ⟨rfl, -, rfl⟩ :=
    exec_next_cases h
  · simp [hrun] at hoff
  · obtain ⟨hie, hresult⟩ := iterate_clears_request s.env (s := s.begun) hpending hclear
    exact ⟨.inr ⟨rfl, hie⟩, hresult⟩
  · have hkept := tick_keeps_request s.env now (s := s.begun) hpending
    simp [hkept] at hclear
  · have hie : ie = true := by simpa [hpending] using hclear
    subst hie
    exact ⟨.inl rfl, by simp [hpending]⟩
  · simp [hpending] at hclear
  · simp [hpending] at hclear

/-! ## The ends of a run -/

/-- EXITED(c) admits no operation (R96). -/
theorem exec_of_exited {s : State} {c : ExitStatus} (hrun : s.run = .exited c) (i : Instr) :
    exec i s = .refused .notAdmitted := by
  have running_only : ∀ f, whenRunning f s = .refused .notAdmitted := fun f => by simp [whenRunning, hrun]
  cases i with
  | init => simp [exec, execInit, hrun]
  | iter => exact running_only iterate
  | tick now => exact running_only fun e u => tick e now u
  | deliver ie => exact running_only fun _ u => deliver ie u
  | render => exact running_only fun e u => (render e u).state
  | shutdown => exact running_only fun _ u => shutdown u

/-- In EXITED(c) a step has no operation of its own to run, and a queued one is refused (R171). -/
theorem step_of_exited {s : State} {c : ExitStatus} (hrun : s.run = .exited c) : ∃ r, step s = .refused r := by
  unfold step fetchNext
  cases s.cmds with
  | nil => exact ⟨.runEnded, by simp [autonomous, hrun]⟩
  | cons w rest =>
    simp only [fetchWord]
    cases decode w with
    | instr i => exact ⟨.notAdmitted, exec_of_exited (s := { s with cmds := rest }) hrun i⟩
    | reservedOp => exact ⟨.reservedOp, rfl⟩
    | mustBeZero => exact ⟨.mustBeZero, rfl⟩

/-- Settles O9: no operation is admitted any more, and a step has nothing else to run. -/
theorem exitedIsTerminal : Obligations.ExitedIsTerminal := by
  intro s c hrun
  exact ⟨exec_of_exited hrun, step_of_exited hrun⟩

end Sys2Proof.Machine
end

section
/-! The invariant of the state (spec/10_state.md R24, R27, R28, R39; spec/20_memory.md R50): it holds at reset, and each
operation keeps it. -/

namespace Sys2Proof.Machine

/-! ## Steps -/

/-- A property of the state that does not look at the queue is kept by steps if every operation keeps it. -/
theorem step_preserves {P : State → Prop} (queue : ∀ (s : State) (rest : List CmdWord), P s → P { s with cmds := rest })
    (operation : ∀ (i : Instr) (s t : State), P s → exec i s = .next t → P t) {s t : State} (hs : P s)
    (h : step s = .next t) : P t := by
  obtain ⟨i, u, hexec, rfl | ⟨_, rest, -, -, rfl⟩⟩ := step_next h
  · exact operation i u t hs hexec
  · exact operation i _ t (queue s rest hs) hexec

/-! ## The updates that keep the invariant -/

theorem Inv.begun {s : State} (h : Inv s) : Inv s.begun := { h with }

theorem Inv.emit {s : State} (h : Inv s) (e : Event) : Inv (s.emit e) := { h with }

theorem Inv.latchCrossing {s : State} (h : Inv s) (now : Millis) : Inv (latchCrossing now s) := { h with latched := rfl }

theorem Inv.raiseRequest {s : State} (h : Inv s) : Inv (raiseRequest s) := { h with }

theorem Inv.deliver {s : State} (h : Inv s) (ie : Bool) : Inv (deliver ie s) := by
  unfold Machine.deliver
  split
  · exact { h with }
  · exact { h with }

theorem Inv.execEngine {s : State} (h : Inv s) (code : OpId) (ws : List Host.Cell) : Inv (execEngine code ws s) :=
  { h with
    memWf := engineWrites_wf _ ws h.memWf
    memIn := engineWrites_inside _ ws h.memIn }

/-! ## Inside an operation -/

/-- The invariant inside an operation: nothing is said of the buffer's words, nor of the run state. -/
structure InvWithin (s : State) : Prop where
  latched  : s.latchedVector = s.nextVector
  unlocked : s.pbLocked = false
  absent   : s.pbCreated = false → s.pb = []
  memWf    : s.mem.wf = true
  memIn    : MemInside s.cfg.params s.mem

theorem Inv.within {s : State} (h : Inv s) : InvWithin s := { h with }

theorem InvWithin.emit {s : State} (h : InvWithin s) (e : Event) : InvWithin (s.emit e) := { h with }

theorem InvWithin.createBuffer {s : State} (h : InvWithin s) : InvWithin (createBuffer s) :=
  { h with absent := fun hc => nomatch hc }

/-- A teardown restores the whole invariant: the buffer, whatever it held, exists no longer. -/
theorem InvWithin.teardown {s : State} (h : InvWithin s) (c : ExitStatus) : Inv (exitWith c (releaseAll s)) where
  latched  := by simpa using h.latched
  unlocked := by simpa using h.unlocked
  absent _ := by
    cases hc : s.pbCreated with
    | true => simp [hc]
    | false => simpa [hc] using h.absent hc
  frame    := by simp
  released := by simp
  memWf    := by simpa using h.memWf
  memIn    := by simpa using h.memIn

theorem InvWithin.raiseFatal {s : State} (h : InvWithin s) (kind : ReportKind) (c : ExitStatus) :
    Inv (raiseFatal kind c s) := (h.emit (.report kind)).teardown c

theorem Inv.shutdown {s : State} (h : Inv s) : Inv (shutdown s) := h.within.teardown exitOk

/-! ## `RENDER` -/

/-- `u` is the state in which a render that began in `s` locks: the buffer existed, or has just been created (R140, R141). -/
def LocksIn (e : Env) (s u : State) : Prop :=
  s.pbCreated = true ∧ u = s ∨ s.pbCreated = false ∧ e.create = .ok ∧ u = createBuffer (s.emit .create)

section
variable {e : Env} {s u : State}

theorem LocksIn.run (h : LocksIn e s u) : u.run = s.run := by
  obtain ⟨-, rfl⟩ | ⟨-, -, rfl⟩ := h
  · rfl
  · rfl

theorem LocksIn.created (h : LocksIn e s u) : u.pbCreated = true := by
  obtain ⟨hc, rfl⟩ | ⟨-, -, rfl⟩ := h
  · exact hc
  · rfl

theorem LocksIn.length (h : LocksIn e s u) (hs : Inv s) : u.pb.length = u.cfg.params.npix := by
  obtain ⟨hc, rfl⟩ | ⟨-, -, rfl⟩ := h
  · exact (hs.frame hc).1
  · simp

theorem LocksIn.within (h : LocksIn e s u) (hs : Inv s) : InvWithin u := by
  obtain ⟨-, rfl⟩ | ⟨-, -, rfl⟩ := h
  · exact hs.within
  · exact (hs.within.emit .create).createBuffer

/-- What a render presents is a whole frame, whatever the buffer held. -/
theorem LocksIn.drawn_frameOk (h : LocksIn e s u) (hs : Inv s) : FrameOk u.cfg.params (drawn e u).pb := by
  rw [drawn_pb_eq_decodeFrame e h.created (h.length hs)]
  exact decodeFrame_frameOk _ _

theorem LocksIn.drawn_inv (h : LocksIn e s u) (hs : Inv s) (hrun : s.run = .running) : Inv (drawn e u) where
  latched    := by simpa using (h.within hs).latched
  unlocked   := drawn_pbLocked e u
  absent hc  := by simp [h.created] at hc
  frame _    := by simpa using h.drawn_frameOk hs
  released   := by simp [h.run, hrun]
  memWf      := by simpa using (h.within hs).memWf
  memIn      := by simpa using (h.within hs).memIn

theorem Inv.render (hs : Inv s) (hrun : s.run = .running) : Inv (render e s).state := by
  refine render_cases (P := fun r => Inv r.state) e s ?createFails ?lockFails ?draws
  case createFails => intro _ _; exact (hs.within.emit .create).raiseFatal _ _
  case lockFails => intro u (hu : LocksIn e s u) _; exact ((hu.within hs).emit .lock).raiseFatal _ _
  case draws => intro u (hu : LocksIn e s u) _; exact hu.drawn_inv hs hrun

end

/-! ## `TICK`, `ITER`, `INIT` -/

theorem Inv.tick {s : State} (h : Inv s) (hrun : s.run = .running) (e : Env) (now : Millis) : Inv (tick e now s) := by
  have hrender : Inv (Machine.render e (Machine.latchCrossing now s)).state := (h.latchCrossing now).render hrun
  refine tick_cases (P := Inv) e now s ?idle ?odd ?even ?fatal
  case idle => intro _; exact h
  case odd => intro _ _; exact (h.latchCrossing now).raiseRequest
  case even =>
    intro t _ _ hr
    rw [hr] at hrender
    exact Inv.raiseRequest hrender
  case fatal => intro t _ _ hr; rwa [hr] at hrender

theorem Inv.delivered {s : State} (h : Inv s) (e : Env) : Inv (delivered e s) :=
  ((h.emit .pollQuit).emit .readIE).deliver e.ie

theorem Inv.fetched {s : State} (h : Inv s) (e : Env) : Inv (fetched e s) := by
  have hbefore : Inv (beforeFetch e s) :=
    beforeFetch_cases (P := Inv) e s (h.delivered e) fun _ _ => (h.delivered e).execEngine _ _
  exact (hbefore.emit .fetch).execEngine _ _

theorem Inv.iterate {s : State} (h : Inv s) (hrun : s.run = .running) (e : Env) : Inv (iterate e s) := by
  refine iterate_cases (P := Inv) e s ?quit ?vecHalt ?opHalt ?whole
  case quit => intro _; exact (h.emit .pollQuit).shutdown
  case vecHalt => intro x _ _ _; exact ((h.delivered e).execEngine _ _).shutdown
  case opHalt => intro _ _ _; exact (h.fetched e).shutdown
  case whole => intro _ _ _; exact ((h.fetched e).emit .now).tick (by simpa using hrun) e e.now

/-- A failed startup releases nothing: in OFF there is no buffer (R160). -/
theorem Inv.initBlock {s : State} (h : Inv s) (hrun : s.run = .off) (e : Env) : Inv (initBlock e s) := by
  refine initBlock_cases (P := Inv) e s ?fails ?starts
  case fails =>
    intro _
    have hgone : s.pbCreated = false := h.released (by simp [hrun])
    exact { h with released := fun _ => hgone }
  case starts =>
    intro _
    exact
      { latched := rfl, unlocked := rfl, absent := fun _ => rfl, frame := fun hc => nomatch hc
        released := fun _ => rfl, memWf := h.memWf, memIn := h.memIn }

/-- Every operation keeps the invariant. -/
theorem exec_next_inv (i : Instr) (s t : State) (hs : Inv s) (h : exec i s = .next t) : Inv t := by
  obtain ⟨-, hrun, rfl⟩ | ⟨-, hrun, rfl⟩ | ⟨now, -, hrun, rfl⟩ | ⟨ie, -, -, rfl⟩ | ⟨-, hrun, rfl⟩ | ⟨-, -, rfl⟩ :=
    exec_next_cases h
  · exact hs.begun.initBlock hrun _
  · exact hs.begun.iterate hrun _
  · exact hs.begun.tick hrun _ now
  · exact hs.begun.deliver ie
  · exact hs.begun.render hrun
  · exact hs.begun.shutdown

/-- Settles O52: the queue is no part of the invariant, and every operation keeps it. -/
theorem stepKeepsInvariant : Obligations.StepKeepsInvariant := by
  intro s t hs h
  exact step_preserves (P := Inv) (fun _ _ hu => { hu with }) exec_next_inv hs h

end Sys2Proof.Machine
end

section
/-! The order of the events of the trace (spec/10_state.md R36; spec/41_video_decoder.md R140 to R144;
spec/42_control_loop.md R160 to R170; spec/60_exceptions.md R204): each operation keeps it. -/

namespace Sys2Proof.Machine

/-! ## The events of a trace -/

/-- `ordered` is the library's chain of the relation `follows`. -/
theorem ordered_iff_isChain (l : List Event) : ordered l = true ↔ l.IsChain (fun a b => follows a b = true) := by
  induction l with
  | nil => simp [ordered]
  | cons a l ih =>
    cases l with
    | nil => simp [ordered]
    | cons b l => rw [ordered, Bool.and_eq_true, ih, List.isChain_cons_cons]

/-- One more event keeps the order when it may follow the last one. -/
theorem ordered_append_singleton (l : List Event) (b : Event) :
    ordered (l ++ [b]) = true ↔ ordered l = true ∧ ∀ a, l.getLast? = some a → follows a b = true := by
  simp [ordered_iff_isChain, List.isChain_append]

/-- The first event of an operation may follow the last event of another. -/
theorem follows_of_closes_of_opens {a b : Event} (ha : closes a = true) (hb : opens b = true) : follows a b = true := by
  cases a with
  | initPresentation => simp [follows, hb]
  | now => exact hb
  | present f => exact hb
  | pollQuit | readIE | exec _ | fetch | create | lock | unlock | report _ | releasePixelBuffer | releasePresentation
  | exit _ => exact nomatch ha

/-! ## Inside an operation -/

/-- Inside an operation: the trace is in order, its frames are whole, and `b` may come next. -/
structure AdmitsNext (s : State) (b : Event) : Prop where
  inOrder : ordered (s.trace ++ [b]) = true
  frames  : ∀ f, .present f ∈ s.trace → FrameOk s.cfg.params f

/-- Only the parameters and the trace count. -/
theorem AdmitsNext.congr {s t : State} {b : Event} (h : AdmitsNext s b) (hcfg : t.cfg = s.cfg) (htrace : t.trace = s.trace) :
    AdmitsNext t b where
  inOrder := by rw [htrace]; exact h.inOrder
  frames  := by rw [htrace, hcfg]; exact h.frames

/-- While the block runs any operation may begin. -/
theorem TraceOk.admitsNext {s : State} (h : TraceOk s) (hrun : s.run = .running) {b : Event} (hb : opens b = true) :
    AdmitsNext s b where
  inOrder := (ordered_append_singleton _ _).2
    ⟨h.inOrder, fun a ha => follows_of_closes_of_opens (h.during hrun a ha) hb⟩
  frames := h.frames

section
variable {s t : State} {a b : Event}

/-- The frames stay whole when the event added is no frame, or a whole one. -/
theorem AdmitsNext.frames_append (h : AdmitsNext s a) (ha : ∀ f, a = .present f → FrameOk s.cfg.params f) :
    ∀ f, .present f ∈ s.trace ++ [a] → FrameOk s.cfg.params f := by
  intro f hf
  obtain hf | hf := List.mem_append.1 hf
  · exact h.frames f hf
  · exact ha f (List.mem_singleton.1 hf).symm

theorem AdmitsNext.emit (h : AdmitsNext s a) (hfollows : follows a b = true) (hframe : isPresent a = false) :
    AdmitsNext (s.emit a) b where
  inOrder := by
    refine (ordered_append_singleton _ _).2 ⟨h.inOrder, fun c hc => ?_⟩
    obtain rfl : a = c := by simpa using hc
    exact hfollows
  frames := h.frames_append fun f hf => by simp [hf, isPresent] at hframe

theorem AdmitsNext.execEngine {code : OpId} (h : AdmitsNext s (.exec code)) (ws : List Host.Cell)
    (hfollows : follows (.exec code) b = true) : AdmitsNext (execEngine code ws s) b :=
  (h.emit hfollows rfl).congr rfl rfl

/-- An operation that ends in a closing event while the block runs leaves the trace as it should be between operations. -/
theorem AdmitsNext.complete (h : AdmitsNext s a) (hcfg : t.cfg = s.cfg) (htrace : t.trace = s.trace ++ [a])
    (hrun : t.run = .running) (hcloses : closes a = true) (hframe : ∀ f, a = .present f → FrameOk s.cfg.params f) :
    TraceOk t where
  inOrder   := htrace ▸ h.inOrder
  before ht := by simp [hrun] at ht
  during _  := by simp [htrace, hcloses]
  after c ht := by simp [hrun] at ht
  frames    := by rw [htrace, hcfg]; exact h.frames_append hframe

end

/-! ## The ways out (R170, R204) -/

/-- What a teardown releases first: the pixel buffer, if it exists. -/
def firstRelease : Bool → Event
  | true => .releasePixelBuffer
  | false => .releasePresentation

@[simp] theorem tearsDown_firstRelease (created : Bool) : tearsDown (firstRelease created) = true := by
  cases created <;> rfl

@[simp] theorem opens_firstRelease (created : Bool) : opens (firstRelease created) = true := by
  cases created <;> rfl

section
variable {s : State}

theorem AdmitsNext.releaseAll (h : AdmitsNext s (firstRelease s.pbCreated)) (c : ExitStatus) :
    AdmitsNext (releaseAll s) (.exit c) := by
  cases hc : s.pbCreated with
  | true =>
    rw [hc] at h
    have hboth : AdmitsNext ((s.emit .releasePixelBuffer).emit .releasePresentation) (.exit c) :=
      (h.emit rfl rfl).emit rfl rfl
    exact hboth.congr (by simp) (by simp [hc, releaseEvents])
  | false =>
    rw [hc] at h
    have hone : AdmitsNext (s.emit .releasePresentation) (.exit c) := h.emit rfl rfl
    exact hone.congr (by simp) (by simp [hc, releaseEvents])

theorem AdmitsNext.exitWith {c : ExitStatus} (h : AdmitsNext s (.exit c)) : TraceOk (exitWith c s) where
  inOrder    := h.inOrder
  before ht  := nomatch ht
  during ht  := nomatch ht
  after d hd := by simpa using hd
  frames     := h.frames_append fun _ hf => nomatch hf

theorem AdmitsNext.shutdown (h : AdmitsNext s (firstRelease s.pbCreated)) : TraceOk (shutdown s) :=
  (h.releaseAll exitOk).exitWith

theorem AdmitsNext.raiseFatal {kind : ReportKind} (h : AdmitsNext s (.report kind))
    (hfollows : follows (.report kind) (firstRelease s.pbCreated) = true) (c : ExitStatus) :
    TraceOk (raiseFatal kind c s) :=
  AdmitsNext.exitWith (AdmitsNext.releaseAll (s := s.emit (.report kind)) (h.emit hfollows rfl) c)

end

/-! ## `RENDER` -/

section
variable {e : Env} {s u : State}

theorem LocksIn.admitsNext (h : LocksIn e s u) (hs : TraceOk s) (hrun : s.run = .running) : AdmitsNext u .lock := by
  obtain ⟨-, rfl⟩ | ⟨-, -, rfl⟩ := h
  · exact hs.admitsNext hrun rfl
  · have hcreated : AdmitsNext (s.emit .create) .lock := (hs.admitsNext hrun rfl).emit rfl rfl
    exact hcreated.congr rfl rfl

theorem LocksIn.drawn_traceOk (h : LocksIn e s u) (hi : Inv s) (hs : TraceOk s) (hrun : s.run = .running) :
    TraceOk (drawn e u) := by
  have hlocked : AdmitsNext (u.emit .lock) .unlock := (h.admitsNext hs hrun).emit rfl rfl
  have hunlocked : AdmitsNext ((u.emit .lock).emit .unlock) (.present (drawn e u).pb) := hlocked.emit rfl rfl
  refine hunlocked.complete (by simp) (by simp [drawn_trace]) (by simp [h.run, hrun]) rfl ?_
  rintro f ⟨rfl⟩
  exact h.drawn_frameOk hi

theorem TraceOk.render (hs : TraceOk s) (hi : Inv s) (hrun : s.run = .running) : TraceOk (render e s).state := by
  refine render_cases (P := fun r => TraceOk r.state) e s ?createFails ?lockFails ?draws
  case createFails =>
    intro hc _
    have hcreate : AdmitsNext (s.emit .create) (.report .createFailure) := (hs.admitsNext hrun rfl).emit rfl rfl
    exact hcreate.raiseFatal (by simp [hc, firstRelease, follows]) _
  case lockFails =>
    intro u (hu : LocksIn e s u) _
    have hlock : AdmitsNext (u.emit .lock) (.report .lockFailure) := (hu.admitsNext hs hrun).emit rfl rfl
    exact hlock.raiseFatal (by simp [hu.created, firstRelease, follows]) _
  case draws => intro u (hu : LocksIn e s u) _; exact hu.drawn_traceOk hi hs hrun

end

/-! ## `TICK` -/

section
variable {s : State}

theorem TraceOk.begun (h : TraceOk s) : TraceOk s.begun := { h with }

theorem TraceOk.latchCrossing (h : TraceOk s) (now : Millis) : TraceOk (latchCrossing now s) := { h with }

theorem TraceOk.raiseRequest (h : TraceOk s) : TraceOk (raiseRequest s) := { h with }

theorem TraceOk.deliver (h : TraceOk s) (ie : Bool) : TraceOk (deliver ie s) := by
  unfold Machine.deliver
  split
  · exact { h with }
  · exact { h with }

theorem TraceOk.tick (h : TraceOk s) (hi : Inv s) (hrun : s.run = .running) (e : Env) (now : Millis) :
    TraceOk (tick e now s) := by
  have hrender : TraceOk (Machine.render e (Machine.latchCrossing now s)).state :=
    (h.latchCrossing now).render (hi.latchCrossing now) hrun
  refine tick_cases (P := TraceOk) e now s ?idle ?odd ?even ?fatal
  case idle => intro _; exact h
  case odd => intro _ _; exact (h.latchCrossing now).raiseRequest
  case even =>
    intro t _ _ hr
    rw [hr] at hrender
    exact TraceOk.raiseRequest hrender
  case fatal => intro t _ _ hr; rwa [hr] at hrender

/-! ## `ITER` -/

theorem TraceOk.polled (h : TraceOk s) (hrun : s.run = .running) {b : Event} (hb : follows .pollQuit b = true) :
    AdmitsNext (s.emit .pollQuit) b := (h.admitsNext hrun rfl).emit hb rfl

theorem TraceOk.delivered (h : TraceOk s) (hrun : s.run = .running) (e : Env) {b : Event}
    (hb : follows .readIE b = true) : AdmitsNext (delivered e s) b := by
  have hread : AdmitsNext ((s.emit .pollQuit).emit .readIE) b := (h.polled hrun rfl).emit hb rfl
  exact hread.congr (deliver_cfg _ _) (deliver_trace _ _)

theorem TraceOk.vectorRun (h : TraceOk s) (hrun : s.run = .running) (e : Env) (code : OpId) {b : Event}
    (hb : follows (.exec code) b = true) : AdmitsNext (execEngine code e.vecWrites (Machine.delivered e s)) b :=
  (h.delivered hrun e rfl).execEngine _ hb

theorem TraceOk.fetched (h : TraceOk s) (hrun : s.run = .running) (e : Env) {b : Event}
    (hb : follows (.exec e.op) b = true) : AdmitsNext (fetched e s) b := by
  have hbefore : AdmitsNext (beforeFetch e s) .fetch :=
    beforeFetch_cases (P := fun u => AdmitsNext u .fetch) e s (h.delivered hrun e rfl)
      fun _ _ => h.vectorRun hrun e _ rfl
  have hfetch : AdmitsNext ((beforeFetch e s).emit .fetch) (.exec e.op) := hbefore.emit rfl rfl
  exact hfetch.execEngine _ hb

/-- When `ITER` comes to its `TICK` the trace is as between operations: the `TICK` is as one commanded directly. -/
theorem TraceOk.sampled (h : TraceOk s) (hrun : s.run = .running) (e : Env) :
    TraceOk ((Machine.fetched e s).emit .now) := by
  have hnow : AdmitsNext (Machine.fetched e s) .now := h.fetched hrun e rfl
  exact hnow.complete rfl rfl (by simpa using hrun) rfl fun _ hf => nomatch hf

theorem TraceOk.iterate (h : TraceOk s) (hi : Inv s) (hrun : s.run = .running) (e : Env) : TraceOk (iterate e s) := by
  refine iterate_cases (P := TraceOk) e s ?quit ?vecHalt ?opHalt ?whole
  case quit => intro _; exact (h.polled hrun (by simp [follows])).shutdown
  case vecHalt => intro x _ _ _; exact (h.vectorRun hrun e _ (by simp [follows])).shutdown
  case opHalt => intro _ _ _; exact (h.fetched hrun e (by simp [follows])).shutdown
  case whole =>
    intro _ _ _
    exact (h.sampled hrun e).tick ((hi.fetched e).emit .now) (by simpa using hrun) e e.now

/-! ## `INIT` -/

theorem TraceOk.initBlock (h : TraceOk s) (hrun : s.run = .off) (e : Env) : TraceOk (initBlock e s) := by
  have hfirst : AdmitsNext s .initPresentation := ⟨by rw [h.before hrun]; rfl, h.frames⟩
  refine initBlock_cases (P := TraceOk) e s ?fails ?starts
  case fails =>
    intro _
    have hreport : AdmitsNext (s.emit .initPresentation) (.report .initFailure) := hfirst.emit rfl rfl
    have hexit : AdmitsNext ((s.emit .initPresentation).emit (.report .initFailure)) (.exit exitInit) :=
      hreport.emit rfl rfl
    exact hexit.exitWith
  case starts => intro _; exact hfirst.complete rfl rfl rfl rfl fun _ hf => nomatch hf

end

/-! ## Every operation -/

/-- Every operation keeps the order of the events. -/
theorem exec_next_traceOk (i : Instr) (s t : State) (hi : Inv s) (hs : TraceOk s) (h : exec i s = .next t) : TraceOk t := by
  obtain ⟨-, hrun, rfl⟩ | ⟨-, hrun, rfl⟩ | ⟨now, -, hrun, rfl⟩ | ⟨ie, -, -, rfl⟩ | ⟨-, hrun, rfl⟩ | ⟨-, hrun, rfl⟩ :=
    exec_next_cases h
  · exact hs.begun.initBlock hrun _
  · exact hs.begun.iterate hi.begun hrun _
  · exact hs.begun.tick hi.begun hrun _ now
  · exact hs.begun.deliver ie
  · exact hs.begun.render hi.begun hrun
  · exact (hs.begun.admitsNext hrun (opens_firstRelease _)).shutdown

/-- Settles O53: the queue is no part of the order, and every operation keeps it, from the invariant of the state. -/
theorem stepKeepsTraceOrder : Obligations.StepKeepsTraceOrder := by
  intro s t hi hs h
  refine (step_preserves (P := fun u => Inv u ∧ TraceOk u) ?queue ?operation ⟨hi, hs⟩ h).2
  case queue => exact fun _ _ ⟨hi, hs⟩ => ⟨{ hi with }, { hs with }⟩
  case operation => exact fun i u v ⟨hi, hs⟩ h => ⟨exec_next_inv i u v hi h, exec_next_traceOk i u v hi hs h⟩

/-! ## Reset -/

/-- The power-on state: no buffer, no byte listed. -/
theorem inv_reset : Inv State.reset where
  latched    := rfl
  unlocked   := rfl
  absent _   := rfl
  frame hc   := nomatch hc
  released _ := rfl
  memWf      := rfl
  memIn      := by simp [MemInside, State.reset]

/-- The power-on state: no event. -/
theorem traceOk_reset : TraceOk State.reset where
  inOrder   := rfl
  before _  := rfl
  during hr := nomatch hr
  after _ hr := nomatch hr
  frames    := by simp [State.reset]

/-- Settles O51: the power-on values, and what they give. -/
theorem resetMeetsInvariants : Obligations.ResetMeetsInvariants :=
  ⟨rfl, rfl, rfl, rfl, rfl, rfl, rfl, inv_reset, traceOk_reset⟩

end Sys2Proof.Machine
end

section
/-! Reading memory: what a write does to its own byte, what the canonical form says of a list (log 4), and the bits of the
video region (spec/20_memory.md R50, R54, R55). -/

namespace Sys2Proof.Machine

/-! ## The canonical form -/

/-- The address of the first entry reads that entry's byte. -/
@[simp] theorem Memory.get_cons_self (b : Nat) (u : Byte) (m : Memory) : Memory.get ((b, u) :: m) b = u := by
  simp [Memory.get]

/-- Any other address reads as in the rest of the list. -/
theorem Memory.get_cons_ne {a b : Nat} (h : a ≠ b) (u : Byte) (m : Memory) : Memory.get ((b, u) :: m) a = m.get a := by
  simp [Memory.get, h]

/-- In canonical form an address written reads the byte written, listed or not. -/
theorem Memory.get_set_self {m : Memory} (a : Nat) (v : Byte) (h : m.wf = true) : (m.set a v).get a = v := by
  induction m with
  | nil =>
    simp only [Memory.set]
    split
    case isTrue hv => rw [Memory.get_nil, hv]
    case isFalse => exact Memory.get_cons_self _ _ _
  | cons x m ih =>
    obtain ⟨b, u⟩ := x
    obtain ⟨hlt, -, hm⟩ := Memory.wf_cons.1 h
    simp only [Memory.set]
    split_ifs with hab hv hab' hv
    · rw [Memory.get_cons_ne (Nat.ne_of_lt hab), Memory.get_of_lt fun c hc => hab.trans (hlt c hc), hv]
    · exact Memory.get_cons_self _ _ _
    · subst hab'
      rw [Memory.get_of_lt hlt, hv]
    · exact Memory.get_cons_self _ _ _
    · rw [Memory.get_cons_ne hab', ih hm]

/-- Settles O48: the canonical form lists no address twice, so nothing behind the entry written can be read in its place. -/
theorem memoryReadsBack : Obligations.MemoryReadsBack := by
  intro m a b v hm
  exact ⟨Memory.get_set_self a v hm, Memory.get_set_ne m v⟩

/-- In canonical form the entries are the bytes that do not read as an unlisted one. -/
theorem Memory.mem_iff_get {m : Memory} (h : m.wf = true) (c : Host.Cell) :
    c ∈ m ↔ m.get c.1 = c.2 ∧ c.2 ≠ Memory.unlisted := by
  obtain ⟨a, v⟩ := c
  induction m with
  | nil => simp [eq_comm]
  | cons x m ih =>
    obtain ⟨b, u⟩ := x
    obtain ⟨hlt, hu, hm⟩ := Memory.wf_cons.1 h
    by_cases hab : a = b
    · subst hab
      have hnot : (a, v) ∉ m := fun hc => Nat.lt_irrefl a (hlt _ hc)
      simp only [List.mem_cons, hnot, or_false, Prod.mk.injEq, true_and, Memory.get_cons_self, eq_comm (a := v)]
      exact ⟨fun huv => ⟨huv, huv ▸ hu⟩, And.left⟩
    · simp only [List.mem_cons, Prod.mk.injEq, hab, false_and, false_or, Memory.get_cons_ne hab, ih hm]

/-- The addresses of a memory in canonical form rise strictly. -/
theorem Memory.pairwise_of_wf {m : Memory} (h : m.wf = true) : m.Pairwise fun c d => c.1 < d.1 := by
  simp only [Memory.wf, Bool.and_eq_true, decide_eq_true_eq] at h
  exact h.1

/-- Settles O49: memories that read alike have the same entries, and a list in strictly rising order is fixed by them. -/
theorem canonicalMemoryIsUnique : Obligations.CanonicalMemoryIsUnique := by
  intro m n hm hn hget
  have hrises : Std.Asymm fun c d : Host.Cell => c.1 < d.1 := ⟨fun _ _ => Nat.lt_asymm⟩
  refine (Memory.pairwise_of_wf hm).eq_of_mem_iff (Memory.pairwise_of_wf hn) fun c => ?_
  rw [Memory.mem_iff_get hm, Memory.mem_iff_get hn, hget]

/-! ## The video region -/

/-- R8: the pixels fill the region's bytes, with no bit left over. -/
theorem div_eight_lt_vramLen (b : Board) {i : Nat} (hi : i < b.params.npix) : i / 8 < b.params.vramLen := by
  have h := b.isOk
  simp only [Params.ok, Bool.and_eq_true, decide_eq_true_eq] at h
  unfold Params.vramLen
  omega

/-- Byte `j` of the region is the byte the answers name, else memory's (R54, R97). -/
theorem region_getD (e : Env) (s : State) {j : Nat} (hj : j < s.cfg.params.vramLen) (d : Byte) :
    (region e s).getD j d = e.mem.getD j (s.mem.get (s.cfg.params.vramBase + j)) := by
  simp [region, memRead, List.getD_eq_getElem?_getD, hj]

/-- Bit `k` of a byte, read by shifting it down and masking (R55). -/
theorem getLsbD_iff_shift_and_one (v : Byte) (k : Nat) : v.getLsbD k = true ↔ (v >>> k) &&& 1#8 = 1#8 := by
  rw [BitVec.and_one_eq_setWidth_ofBool_getLsbD, BitVec.getLsbD_ushiftRight, Nat.add_zero]
  cases v.getLsbD k with
  | true => decide
  | false => decide

/-- Settles O28: the bit lies in byte `i div 8` of the region, which is the byte named or memory's. -/
theorem regionBitsComeFromMemory : Obligations.RegionBitsComeFromMemory := by
  intro e s i hi
  rw [bitOf, region_getD e s (div_eight_lt_vramLen s.cfg hi), getLsbD_iff_shift_and_one]
  refine ⟨fun hout => ?_, fun v hnamed => ?_⟩
  · rw [List.getD_eq_default _ _ hout]
  · rw [List.getD_eq_getElem?_getD, hnamed, Option.getD_some]

end Sys2Proof.Machine
end

section
/-! The engine's writes during one operation (spec/43_external_interfaces.md R181): they are all that happens to memory
(spec/20_memory.md R51), and a render later in the same `ITER` shows them (R62). -/

namespace Sys2Proof.Machine

/-! ## `ITER` before its `TICK` -/

/-- What the engine writes for the vector of an `ITER` (R165): nothing when none is delivered. -/
def vectorWrites (e : Env) (s : State) : List Host.Cell :=
  if s.pending = true ∧ e.ie = true then e.vecWrites else []

@[simp] theorem vectorWrites_begun (e : Env) (s : State) : vectorWrites e s.begun = vectorWrites e s := rfl

/-- `DELIVER` returns a vector exactly when a request is pending and the engine enabled (R114). -/
theorem delivered_result_eq_none_iff (e : Env) (s : State) :
    (delivered e s).result = none ↔ ¬(s.pending = true ∧ e.ie = true) := by
  rw [delivered_result, ← Bool.and_eq_true]
  cases s.pending && e.ie with
  | true => simp
  | false => simp

theorem delivers_of_delivered_result {e : Env} {s : State} {x : Vec} (h : (delivered e s).result = some x) :
    s.pending = true ∧ e.ie = true := by
  by_contra hnot
  rw [(delivered_result_eq_none_iff e s).2 hnot] at h
  exact nomatch h

@[simp] theorem delivered_mem (e : Env) (s : State) : (delivered e s).mem = s.mem := by simp [delivered]
@[simp] theorem delivered_pbCreated (e : Env) (s : State) : (delivered e s).pbCreated = s.pbCreated := by simp [delivered]
@[simp] theorem delivered_pb (e : Env) (s : State) : (delivered e s).pb = s.pb := by simp [delivered]

@[simp] theorem beforeFetch_mem (e : Env) (s : State) :
    (beforeFetch e s).mem = engineWrites s.cfg.params s.mem (vectorWrites e s) := by
  unfold beforeFetch vectorWrites
  split
  case h_1 x hx => simp [delivers_of_delivered_result hx]
  case h_2 hx => rw [if_neg ((delivered_result_eq_none_iff e s).1 hx)]; simp
@[simp] theorem beforeFetch_pbCreated (e : Env) (s : State) : (beforeFetch e s).pbCreated = s.pbCreated := by
  refine beforeFetch_cases (P := fun u => u.pbCreated = s.pbCreated) e s ?_ fun x _ => ?_ <;> simp
@[simp] theorem beforeFetch_pb (e : Env) (s : State) : (beforeFetch e s).pb = s.pb := by
  refine beforeFetch_cases (P := fun u => u.pb = s.pb) e s ?_ fun x _ => ?_ <;> simp

@[simp] theorem fetched_mem (e : Env) (s : State) :
    (fetched e s).mem = engineWrites s.cfg.params s.mem (vectorWrites e s ++ e.opWrites) := by
  simp [fetched, engineWrites_append]
@[simp] theorem fetched_pbCreated (e : Env) (s : State) : (fetched e s).pbCreated = s.pbCreated := by simp [fetched]
@[simp] theorem fetched_pb (e : Env) (s : State) : (fetched e s).pb = s.pb := by simp [fetched]

/-! ## Every operation -/

@[simp] theorem render_state_mem (e : Env) (s : State) : (render e s).state.mem = s.mem := by
  simp [render_keeps e s]

@[simp] theorem tick_mem (e : Env) (now : Millis) (s : State) : (tick e now s).mem = s.mem := by
  have hrender : (render e (latchCrossing now s)).state.mem = s.mem := by simp
  refine tick_cases (P := fun t => t.mem = s.mem) e now s ?idle ?odd ?even ?fatal
  case idle => intro _; rfl
  case odd => intro _ _; rfl
  case even => intro t _ _ hr; rwa [hr] at hrender
  case fatal => intro t _ _ hr; rwa [hr] at hrender

@[simp] theorem initBlock_mem (e : Env) (s : State) : (initBlock e s).mem = s.mem := by
  refine initBlock_cases (P := fun t => t.mem = s.mem) e s ?fails ?starts
  case fails => intro _; simp
  case starts => intro _; simp

/-- What the engine writes in a whole `ITER`: nothing after a quit (R164), the vector's writes alone when it halts for the
vector (R167), else those of the vector and of the fetched operation. -/
def iterWrites (e : Env) (s : State) : List Host.Cell :=
  if e.quit = true then []
  else if (s.pending = true ∧ e.ie = true) ∧ e.hv = true then e.vecWrites
  else vectorWrites e s ++ e.opWrites

@[simp] theorem iterate_mem (e : Env) (s : State) :
    (iterate e s).mem = engineWrites s.cfg.params s.mem (iterWrites e s) := by
  have fetches : e.quit = false → ((delivered e s).result = none ∨ e.hv = false) →
      iterWrites e s = vectorWrites e s ++ e.opWrites := by
    intro hq hd
    have hgoes : ¬((s.pending = true ∧ e.ie = true) ∧ e.hv = true) := by
      rintro ⟨hdelivers, hhalts⟩
      obtain hd | hd := hd
      · exact (delivered_result_eq_none_iff e s).1 hd hdelivers
      · simp [hd] at hhalts
    rw [iterWrites, if_neg (by simp [hq]), if_neg hgoes]
  refine iterate_cases (P := fun t => t.mem = engineWrites s.cfg.params s.mem (iterWrites e s)) e s
    ?quit ?vecHalt ?opHalt ?whole
  case quit => intro hq; simp [iterWrites, hq]
  case vecHalt => intro x hq hx hv; simp [iterWrites, hq, hv, delivers_of_delivered_result hx]
  case opHalt => intro hq hd _; simp [fetches hq hd]
  case whole => intro hq hd _; simp [fetches hq hd]

/-- What the engine writes in an operation: only `ITER` hands it anything to execute. -/
def execWrites : Instr → State → List Host.Cell
  | .iter, s => iterWrites s.env s
  | .init, _ | .tick _, _ | .deliver _, _ | .render, _ | .shutdown, _ => []

theorem execWrites_of_ne_iter {i : Instr} (h : i ≠ .iter) (s : State) : execWrites i s = [] := by
  cases i with
  | iter => exact absurd rfl h
  | init | tick _ | deliver _ | render | shutdown => rfl

/-- R51, exactly: memory after an operation is memory before it with the engine's writes. -/
theorem exec_next_mem {i : Instr} {s t : State} (h : exec i s = .next t) :
    t.mem = engineWrites s.cfg.params s.mem (execWrites i s) := by
  obtain ⟨rfl, -, rfl⟩ | ⟨rfl, -, rfl⟩ | ⟨now, rfl, -, rfl⟩ | ⟨ie, rfl, -, rfl⟩ | ⟨rfl, -, rfl⟩ | ⟨rfl, -, rfl⟩ :=
    exec_next_cases h
  · simp [execWrites]
  · exact iterate_mem _ _
  · simp [execWrites]
  · simp [execWrites]
  · simp [execWrites]
  · simp [execWrites]

/-- What the engine writes in an `ITER` stands in its two lists. -/
theorem mem_of_mem_iterWrites {e : Env} {s : State} {c : Host.Cell} (h : c ∈ iterWrites e s) :
    c ∈ e.vecWrites ++ e.opWrites := by
  unfold iterWrites vectorWrites at h
  split_ifs at h with hq hv hd
  · exact nomatch h
  · exact List.mem_append_left _ h
  · exact h
  · exact List.mem_append_right _ h

/-- Settles O45: memory changes by the engine's writes alone, which are those of an `ITER`'s two lists. -/
theorem onlyTheEngineWritesMemory : Obligations.OnlyTheEngineWritesMemory := by
  intro i s t a h hlists
  rw [exec_next_mem h]
  refine engineWrites_get _ _ _ a fun c hc => ?_
  by_cases hi : i = .iter
  · subst hi
    exact hlists rfl c (mem_of_mem_iterWrites hc)
  · rw [execWrites_of_ne_iter hi] at hc
    exact nomatch hc

/-! ## A render inside `ITER` -/

/-- An `ITER` without a quit and without a halt comes to its `TICK` (R163). -/
theorem iterate_eq_tick {e : Env} {s : State} (hq : e.quit = false)
    (hd : (delivered e s).result = none ∨ e.hv = false) (hh : e.h = false) :
    iterate e s = tick e e.now ((fetched e s).emit .now) := by
  refine iterate_cases (P := fun t => t = tick e e.now ((fetched e s).emit .now)) e s ?quit ?vecHalt ?opHalt ?whole
  case quit => intro hquit; simp [hq] at hquit
  case vecHalt =>
    intro x _ hx hv
    obtain hd | hd := hd
    · rw [hx] at hd; exact nomatch hd
    · simp [hv] at hd
  case opHalt => intro _ _ hhalt; simp [hh] at hhalt
  case whole => intro _ _ _; rfl

/-- A render that gets its buffer and its lock draws (R140). -/
theorem render_eq_done_drawn {e : Env} {s : State} (hb : s.pbCreated = true ∨ e.create = .ok) (hl : e.lock = .ok) :
    ∃ u, LocksIn e s u ∧ render e s = .done (drawn e u) := by
  refine render_cases (P := fun r => ∃ u, LocksIn e s u ∧ r = .done (drawn e u)) e s ?createFails ?lockFails ?draws
  case createFails => intro hc hfail; simp [hc, hfail] at hb
  case lockFails => intro u _ hfail; simp [hl] at hfail
  case draws => intro u hu _; exact ⟨u, hu, rfl⟩

/-- An even crossing that gets its buffer and its lock draws and raises the request (R111). -/
theorem tick_eq_raiseRequest_drawn {e : Env} {now : Millis} {s : State}
    (hc : crossing s.cfg.params.threshold now s.lastTick = true) (hv : s.nextVector = .v1)
    (hb : s.pbCreated = true ∨ e.create = .ok) (hl : e.lock = .ok) :
    ∃ u, LocksIn e (latchCrossing now s) u ∧ tick e now s = raiseRequest (drawn e u) := by
  obtain ⟨u, hu, hr⟩ := render_eq_done_drawn (s := latchCrossing now s) hb hl
  refine ⟨u, hu, ?_⟩
  simp [tick, hc, finishCrossing, hv, hr]

section
variable {e : Env} {s u : State}

theorem LocksIn.cfg (h : LocksIn e s u) : u.cfg = s.cfg := by
  obtain ⟨-, rfl⟩ | ⟨-, -, rfl⟩ := h
  · rfl
  · rfl

theorem LocksIn.mem (h : LocksIn e s u) : u.mem = s.mem := by
  obtain ⟨-, rfl⟩ | ⟨-, -, rfl⟩ := h
  · rfl
  · rfl

/-- R144: a draw into a buffer of `NPIX` words, or into a new one, leaves the decode of the region. -/
theorem LocksIn.drawn_pb (h : LocksIn e s u) (hlen : s.pbCreated = true → s.pb.length = s.cfg.params.npix) :
    (drawn e u).pb = decodeFrame s.cfg.params (region e s) := by
  have hu : u.pb.length = u.cfg.params.npix := by
    obtain ⟨hc, rfl⟩ | ⟨-, -, rfl⟩ := h
    · exact hlen hc
    · simp
  rw [drawn_pb_eq_decodeFrame e h.created hu, region_congr h.cfg h.mem, h.cfg]

end

/-- Settles O38: the `ITER` comes to its `TICK` with the engine's writes in memory, and the render there reads that memory. -/
theorem renderSeesEngineWrites : Obligations.RenderSeesEngineWrites := by
  intro s hrun hq hvec hh hnext hcross hlen hbuf hlock
  have hgoes : (delivered s.env s.begun).result = none ∨ s.env.hv = false := by
    rw [delivered_result_eq_none_iff, State.begun_pending]
    exact or_iff_not_imp_left.2 fun hd => hvec (not_not.1 hd).1 (not_not.1 hd).2
  obtain ⟨u, hu, htick⟩ := tick_eq_raiseRequest_drawn (e := s.env) (now := s.env.now)
    (s := (fetched s.env s.begun).emit .now) (by simpa [crossing_iff] using hcross) (by simpa using hnext)
    (by simpa using hbuf) hlock
  have hexec : exec .iter s = .next (raiseRequest (drawn s.env u)) :=
    whenRunning_next.2 ⟨hrun, by rw [iterate_eq_tick hq hgoes hh, htick]⟩
  refine ⟨_, hexec, ?run, rfl, ?mem, ?pb, ?last⟩
  case run => simpa [hu.run] using hrun
  case mem =>
    have hmem : u.mem = engineWrites s.cfg.params s.mem (vectorWrites s.env s ++ s.env.opWrites) := by
      simpa using hu.mem
    simp only [raiseRequest_mem, drawn_mem, hmem, vectorWrites]
    by_cases hd : s.pending = true ∧ s.env.ie = true
    · rw [if_pos hd, if_pos hd, engineWrites_append]
    · rw [if_neg hd, if_neg hd, List.nil_append]
  case pb =>
    have hframe := hu.drawn_pb (by simpa using hlen)
    have hread : region s.env { s with mem := u.mem } =
        region s.env (latchCrossing s.env.now ((fetched s.env s.begun).emit .now)) := region_congr (by simp) hu.mem
    simpa [hread] using hframe
  case last => simp [drawn_trace]

end Sys2Proof.Machine
end

section
/-! What memory's content can reach (spec/20_memory.md R50, R59; spec/60_exceptions.md R212): two runs of one operation, from
states that differ in memory, are compared update by update. -/

namespace Sys2Proof.Machine

/-! ## Two states with different memories -/

/-- `s` and `u` agree in everything but memory and what pixels show: the words of the buffer, and the frames in the trace.
When their video regions are the `same`, pixels show the same too. What becomes of memory itself is `exec_next_mem`'s. -/
structure AlikeButPixels (same : Prop) (s u : State) : Prop where
  cfg           : u.cfg = s.cfg
  run           : u.run = s.run
  pending       : u.pending = s.pending
  nextVector    : u.nextVector = s.nextVector
  latchedVector : u.latchedVector = s.latchedVector
  lastTick      : u.lastTick = s.lastTick
  pbCreated     : u.pbCreated = s.pbCreated
  pbLocked      : u.pbLocked = s.pbLocked
  result        : u.result = s.result
  cmds          : u.cmds = s.cmds
  script        : u.script = s.script
  opCount       : u.opCount = s.opCount
  pbLength      : u.pb.length = s.pb.length
  events        : u.trace.map Event.withoutFrame = s.trace.map Event.withoutFrame
  pb            : same → u.pb = s.pb
  trace         : same → u.trace = s.trace
  video         : same → ∀ a, s.cfg.params.vramBase ≤ a → a < s.cfg.params.vramBase + s.cfg.params.vramLen →
    u.mem.get a = s.mem.get a

section
variable {same : Prop} {s u : State}

/-- A state is like itself with another memory that holds the same region. -/
theorem AlikeButPixels.withMem (s : State) {m : Memory} (hvideo : same → ∀ a, s.cfg.params.vramBase ≤ a →
    a < s.cfg.params.vramBase + s.cfg.params.vramLen → m.get a = s.mem.get a) :
    AlikeButPixels same s { s with mem := m } :=
  { cfg := rfl, run := rfl, pending := rfl, nextVector := rfl, latchedVector := rfl, lastTick := rfl, pbCreated := rfl
    pbLocked := rfl, result := rfl, cmds := rfl, script := rfl, opCount := rfl, pbLength := rfl, events := rfl
    pb := fun _ => rfl, trace := fun _ => rfl, video := hvideo }

/-- With the same region, one state is the other but for memory. -/
theorem AlikeButPixels.eq_withMem (h : AlikeButPixels same s u) (hsame : same) : u = { s with mem := u.mem } := by
  cases s
  cases u
  rw [State.mk.injEq]
  exact ⟨h.cfg, h.run, h.pending, h.nextVector, h.latchedVector, h.lastTick, h.pbCreated, h.pbLocked, h.pb hsame, rfl,
    h.trace hsame, h.result, h.cmds, h.script, h.opCount⟩

/-- R59: the bytes a render reads are those of the region. -/
theorem AlikeButPixels.region (h : AlikeButPixels same s u) (hsame : same) (e : Env) : region e u = region e s := by
  apply List.ext_getElem
  · simp [h.cfg]
  · intro j _ hj
    have hread := h.video hsame (s.cfg.params.vramBase + j) (Nat.le_add_right _ _)
      (Nat.add_lt_add_left (by simpa using hj) _)
    simp [Machine.region, memRead, h.cfg, hread]

/-! ## The updates that keep them alike -/

theorem AlikeButPixels.begun (h : AlikeButPixels same s u) : AlikeButPixels same s.begun u.begun :=
  { h with
    script := by simp [h.script]
    opCount := by simp [h.opCount] }

theorem AlikeButPixels.emit (h : AlikeButPixels same s u) (e : Event) : AlikeButPixels same (s.emit e) (u.emit e) :=
  { h with
    events := by simp [h.events]
    trace := fun hsame => by simp [h.trace hsame] }

/-- The frame shown is the buffer's content, which is the one thing here that memory may have decided. -/
theorem AlikeButPixels.presentFrame (h : AlikeButPixels same s u) : AlikeButPixels same (presentFrame s) (presentFrame u) :=
  { h with
    events := by simp [h.events]
    trace := fun hsame => by simp [h.trace hsame, h.pb hsame] }

theorem AlikeButPixels.createBuffer (h : AlikeButPixels same s u) : AlikeButPixels same (createBuffer s) (createBuffer u) :=
  { h with
    pbCreated := rfl
    pbLength := by simp [h.cfg]
    pb := fun _ => by simp [h.cfg, h.opCount] }

theorem AlikeButPixels.lockBuffer (h : AlikeButPixels same s u) : AlikeButPixels same (lockBuffer s) (lockBuffer u) :=
  { h with pbLocked := rfl }

theorem AlikeButPixels.unlockBuffer (h : AlikeButPixels same s u) : AlikeButPixels same (unlockBuffer s) (unlockBuffer u) :=
  { h.emit .unlock with pbLocked := rfl }

/-- Memory is read here, and nowhere else: the words differ with the region, their number does not. -/
theorem AlikeButPixels.drawFrame (h : AlikeButPixels same s u) (e : Env) :
    AlikeButPixels same (drawFrame e s) (drawFrame e u) := by
  unfold Machine.drawFrame
  rw [h.pbCreated, h.pbLocked]
  split
  · exact
      { h with
        pbCreated := rfl
        pbLocked := rfl
        pbLength := by simp [h.pbLength]
        pb := fun hsame => by simp [h.cfg, h.region hsame, h.pb hsame] }
  · exact h

theorem AlikeButPixels.latchCrossing (h : AlikeButPixels same s u) (now : Millis) :
    AlikeButPixels same (latchCrossing now s) (latchCrossing now u) :=
  { h with
    lastTick := rfl
    nextVector := by simp [h.nextVector]
    latchedVector := by simp [h.nextVector] }

theorem AlikeButPixels.raiseRequest (h : AlikeButPixels same s u) : AlikeButPixels same (raiseRequest s) (raiseRequest u) :=
  { h with pending := rfl }

theorem AlikeButPixels.initRegisters (h : AlikeButPixels same s u) :
    AlikeButPixels same (initRegisters s) (initRegisters u) :=
  { h with
    run := rfl
    pending := rfl
    nextVector := rfl
    latchedVector := rfl
    lastTick := rfl
    pbCreated := rfl
    pbLocked := rfl
    pbLength := rfl
    pb := fun _ => rfl }

theorem AlikeButPixels.deliver (h : AlikeButPixels same s u) (ie : Bool) :
    AlikeButPixels same (deliver ie s) (deliver ie u) := by
  unfold Machine.deliver
  rw [h.pending, h.latchedVector]
  split
  · exact { h with pending := rfl, latchedVector := rfl, result := rfl }
  · exact { h with pending := rfl, latchedVector := rfl, result := rfl }

/-- The engine may write the region, so nothing is kept of its being the same. -/
theorem AlikeButPixels.execEngine (h : AlikeButPixels same s u) (hdiffer : ¬same) (code : OpId) (ws : List Host.Cell) :
    AlikeButPixels same (execEngine code ws s) (execEngine code ws u) :=
  { h.emit (.exec code) with video := fun hsame => absurd hsame hdiffer }

/-! ## The ways out (R170, R204) -/

theorem AlikeButPixels.exitWith (h : AlikeButPixels same s u) (c : ExitStatus) :
    AlikeButPixels same (exitWith c s) (exitWith c u) :=
  { h.emit (.exit c) with run := rfl }

theorem AlikeButPixels.releaseAll (h : AlikeButPixels same s u) : AlikeButPixels same (releaseAll s) (releaseAll u) := by
  have hrelease : AlikeButPixels same (releaseBuffer s) (releaseBuffer u) :=
    { h.emit .releasePixelBuffer with pbCreated := rfl, pbLength := rfl, pb := fun _ => rfl }
  unfold Machine.releaseAll
  rw [h.pbCreated]
  split
  · exact hrelease.emit _
  · exact h.emit _

theorem AlikeButPixels.shutdown (h : AlikeButPixels same s u) : AlikeButPixels same (shutdown s) (shutdown u) :=
  h.releaseAll.exitWith exitOk

theorem AlikeButPixels.raiseFatal (h : AlikeButPixels same s u) (kind : ReportKind) (c : ExitStatus) :
    AlikeButPixels same (raiseFatal kind c s) (raiseFatal kind c u) :=
  (h.emit (.report kind)).releaseAll.exitWith c

/-! ## The operations -/

/-- Two renders end alike: both on the fatal path or neither. -/
inductive EndAlike (same : Prop) : RenderEnd → RenderEnd → Prop
  | done {t v : State} (h : AlikeButPixels same t v) : EndAlike same (.done t) (.done v)
  | fatal {t v : State} (h : AlikeButPixels same t v) : EndAlike same (.fatal t) (.fatal v)

theorem EndAlike.state {r q : RenderEnd} (h : EndAlike same r q) : AlikeButPixels same r.state q.state := by
  cases h with
  | done h => exact h
  | fatal h => exact h

theorem AlikeButPixels.lockAndDraw (h : AlikeButPixels same s u) (e : Env) :
    EndAlike same (lockAndDraw e s) (lockAndDraw e u) := by
  unfold Machine.lockAndDraw
  cases e.lock with
  | ok => exact .done (((h.emit .lock).lockBuffer.drawFrame e).unlockBuffer.presentFrame)
  | fail => exact .fatal ((h.emit .lock).raiseFatal _ _)

theorem AlikeButPixels.render (h : AlikeButPixels same s u) (e : Env) : EndAlike same (render e s) (render e u) := by
  unfold Machine.render
  rw [h.pbCreated, h.cfg]
  split
  · exact h.lockAndDraw e
  · cases e.create with
    | ok => exact (h.emit .create).createBuffer.lockAndDraw e
    | fail => exact .fatal ((h.emit .create).raiseFatal _ _)

theorem AlikeButPixels.finishCrossing (h : AlikeButPixels same s u) (e : Env) :
    AlikeButPixels same (finishCrossing e s) (finishCrossing e u) := by
  unfold Machine.finishCrossing
  rw [h.nextVector]
  cases s.nextVector with
  | v1 => exact h.raiseRequest
  | v2 =>
    have hrender := h.render e
    generalize Machine.render e s = r, Machine.render e u = q at hrender
    cases hrender with
    | done hdone => exact hdone.raiseRequest
    | fatal hfatal => exact hfatal

theorem AlikeButPixels.tick (h : AlikeButPixels same s u) (e : Env) (now : Millis) :
    AlikeButPixels same (tick e now s) (tick e now u) := by
  unfold Machine.tick
  rw [h.cfg, h.lastTick]
  split
  · exact (h.latchCrossing now).finishCrossing e
  · exact h

theorem AlikeButPixels.initBlock (h : AlikeButPixels same s u) (e : Env) :
    AlikeButPixels same (initBlock e s) (initBlock e u) := by
  unfold Machine.initBlock
  cases e.init with
  | ok => exact (h.emit .initPresentation).initRegisters
  | fail => exact ((h.emit .initPresentation).emit (.report .initFailure)).exitWith exitInit

theorem AlikeButPixels.phaseFetch (h : AlikeButPixels same s u) (hdiffer : ¬same) (e : Env) :
    AlikeButPixels same (phaseFetch e s) (phaseFetch e u) := by
  have hexec := (h.emit .fetch).execEngine hdiffer e.op e.opWrites
  unfold Machine.phaseFetch
  split
  · exact hexec.shutdown
  · exact (hexec.emit .now).tick e e.now

theorem AlikeButPixels.phaseVec (h : AlikeButPixels same s u) (hdiffer : ¬same) (e : Env) (x : Vec) :
    AlikeButPixels same (phaseVec e x s) (phaseVec e x u) := by
  have hexec := h.execEngine hdiffer (vecCode s.cfg.params x) e.vecWrites
  unfold Machine.phaseVec
  rw [h.cfg]
  split
  · exact hexec.shutdown
  · exact hexec.phaseFetch hdiffer e

theorem AlikeButPixels.afterDeliver (h : AlikeButPixels same s u) (hdiffer : ¬same) (e : Env) :
    AlikeButPixels same (afterDeliver e s) (afterDeliver e u) := by
  unfold Machine.afterDeliver
  rw [h.result]
  cases s.result with
  | some x => exact h.phaseVec hdiffer e x
  | none => exact h.phaseFetch hdiffer e

theorem AlikeButPixels.iterate (h : AlikeButPixels same s u) (hdiffer : ¬same) (e : Env) :
    AlikeButPixels same (iterate e s) (iterate e u) := by
  have hpolled := h.emit .pollQuit
  unfold Machine.iterate
  split
  · exact hpolled.shutdown
  · exact ((hpolled.emit .readIE).deliver e.ie).afterDeliver hdiffer e

end

/-- With another memory an operation is admitted too, and ends in a like state. Of `ITER` nothing more can be said when the
regions were the same, for the engine writes in between. -/
theorem exec_next_alike {same : Prop} {i : Instr} {s t : State} {m : Memory} (hi : same → i ≠ .iter)
    (hvideo : same → ∀ a, s.cfg.params.vramBase ≤ a → a < s.cfg.params.vramBase + s.cfg.params.vramLen →
      m.get a = s.mem.get a) (h : exec i s = .next t) :
    ∃ u, exec i { s with mem := m } = .next u ∧ AlikeButPixels same t u := by
  have hs := (AlikeButPixels.withMem s hvideo).begun
  obtain ⟨rfl, hrun, rfl⟩ | ⟨rfl, hrun, rfl⟩ | ⟨now, rfl, hrun, rfl⟩ | ⟨ie, rfl, hrun, rfl⟩ | ⟨rfl, hrun, rfl⟩ |
    ⟨rfl, hrun, rfl⟩ := exec_next_cases h
  · exact ⟨_, execInit_next.2 ⟨hrun, rfl⟩, hs.initBlock s.env⟩
  · exact ⟨_, whenRunning_next.2 ⟨hrun, rfl⟩, hs.iterate (fun hsame => hi hsame rfl) s.env⟩
  · exact ⟨_, (whenRunning_next (f := fun e s => tick e now s)).2 ⟨hrun, rfl⟩, hs.tick s.env now⟩
  · exact ⟨_, (whenRunning_next (f := fun _ s => deliver ie s)).2 ⟨hrun, rfl⟩, hs.deliver ie⟩
  · exact ⟨_, (whenRunning_next (f := fun e s => (render e s).state)).2 ⟨hrun, rfl⟩, (hs.render s.env).state⟩
  · exact ⟨_, (whenRunning_next (f := fun _ s => shutdown s)).2 ⟨hrun, rfl⟩, hs.shutdown⟩

/-- What the engine writes does not depend on what memory holds. -/
theorem execWrites_withMem (i : Instr) (s : State) (m : Memory) : execWrites i { s with mem := m } = execWrites i s := by
  cases i with
  | init | iter | tick _ | deliver _ | render | shutdown => rfl

/-- Settles O46: the two runs end alike whatever the two memories hold, and both memories take the engine's writes. -/
theorem memoryReachesOnlyPixels : Obligations.MemoryReachesOnlyPixels := by
  intro i s t m h
  obtain ⟨u, hu, halike⟩ := exec_next_alike (same := False) (m := m) False.elim False.elim h
  have hmem : u.mem = engineWrites s.cfg.params m (execWrites i s) := execWrites_withMem i s m ▸ exec_next_mem hu
  exact ⟨u, hu, halike.cfg, halike.run, halike.pending, halike.nextVector, halike.latchedVector, halike.lastTick,
    halike.pbCreated, halike.pbLocked, halike.pbLength, halike.result, halike.cmds, halike.script, halike.opCount,
    halike.events, execWrites i s, exec_next_mem h, hmem⟩

/-- Settles O47: with the same region the pixels are the same too, and without the engine memory stays as it was. -/
theorem onlyTheVideoRegionIsRead : Obligations.OnlyTheVideoRegionIsRead := by
  intro i s t m hi h hvideo
  obtain ⟨u, hu, halike⟩ := exec_next_alike (same := True) (fun _ => hi) (fun _ => hvideo) h
  have hmem : u.mem = m := by rw [exec_next_mem hu, execWrites_of_ne_iter hi, engineWrites_nil]
  rw [hu, halike.eq_withMem trivial, hmem]

end Sys2Proof.Machine
end

section
/-! Command words (spec/30_encoding.md R88 to R91, R99): the decoder has one equation for each operation code, the encoder and
the decoder undo each other, and both agree with the table of masks. -/

namespace Sys2Proof

/-! ## The decoder, one equation for each operation code (R88) -/

section
variable {w : CmdWord}

theorem decode_opInit (h : cwOp w = 0#3) : decode w = decodePlain w .init := by simp [decode, h]

theorem decode_opIter (h : cwOp w = 1#3) : decode w = decodePlain w .iter := by simp [decode, h]

theorem decode_opTick (h : cwOp w = 2#3) :
    decode w = if cwIe w = false then .instr (.tick (cwNow w)) else .mustBeZero := by simp [decode, h]

theorem decode_opDeliver (h : cwOp w = 3#3) :
    decode w = if cwNow w = 0#32 then .instr (.deliver (cwIe w)) else .mustBeZero := by simp [decode, h]

theorem decode_opRender (h : cwOp w = 4#3) : decode w = decodePlain w .render := by simp [decode, h]

theorem decode_opShutdown (h : cwOp w = 5#3) : decode w = decodePlain w .shutdown := by simp [decode, h]

theorem decode_opReserved (h : cwOp w = 6#3 ∨ cwOp w = 7#3) : decode w = .reservedOp := by
  obtain h | h := h
  · simp [decode, h]
  · simp [decode, h]

theorem decodePlain_eq_instr {i j : Instr} :
    decodePlain w j = .instr i ↔ cwIe w = false ∧ cwNow w = 0#32 ∧ j = i := by
  unfold decodePlain
  split_ifs with hzero
  · simp [hzero]
  · exact iff_of_false nofun fun ⟨hie, hnow, _⟩ => hzero ⟨hie, hnow⟩

theorem decodePlain_mustBeZero (h : cwIe w = true ∨ cwNow w ≠ 0#32) (i : Instr) : decodePlain w i = .mustBeZero := by
  refine if_neg fun hzero => ?_
  obtain ⟨hie, hnow⟩ := hzero
  simp [hie, hnow] at h

end

/-! ## Encoder and decoder undo each other -/

/-- A word is packed of three values exactly when they are its fields. -/
theorem packWord_eq_iff {op : BitVec 3} {ie : Bool} {now : Millis} {w : CmdWord} :
    packWord op ie now = w ↔ cwOp w = op ∧ cwIe w = ie ∧ cwNow w = now := by
  constructor
  · rintro rfl
    simp
  · rintro ⟨rfl, rfl, rfl⟩
    exact packWord_fields w

@[simp] theorem decodePlain_packWord (op : BitVec 3) (i : Instr) : decodePlain (packWord op false 0#32) i = .instr i :=
  decodePlain_eq_instr.2 ⟨cwIe_packWord .., cwNow_packWord .., rfl⟩

theorem decode_encode (i : Instr) : decode (encode i) = .instr i := by
  cases i with
  | init => rw [encode, decode_opInit (cwOp_packWord ..), decodePlain_packWord]
  | iter => rw [encode, decode_opIter (cwOp_packWord ..), decodePlain_packWord]
  | tick now => rw [encode, decode_opTick (cwOp_packWord ..), cwIe_packWord, cwNow_packWord, if_pos rfl]
  | deliver ie => rw [encode, decode_opDeliver (cwOp_packWord ..), cwNow_packWord, cwIe_packWord, if_pos rfl]
  | render => rw [encode, decode_opRender (cwOp_packWord ..), decodePlain_packWord]
  | shutdown => rw [encode, decode_opShutdown (cwOp_packWord ..), decodePlain_packWord]

/-- Settles O2: each operation's word carries the operation's code, and the fields that code reads hold its operands. -/
theorem decodeOfEncode : Obligations.DecodeOfEncode := fun i _ => decode_encode i

/-- An operation without operands comes from the word of its code with both operand fields 0. -/
theorem encode_of_decodePlain {w : CmdWord} {i j : Instr} (hj : encode j = packWord (cwOp w) false 0#32)
    (h : decodePlain w j = .instr i) : encode i = w := by
  obtain ⟨hie, hnow, rfl⟩ := decodePlain_eq_instr.1 h
  exact hj.trans (packWord_eq_iff.2 ⟨rfl, hie, hnow⟩)

theorem encode_of_decode {w : CmdWord} {i : Instr} (h : decode w = .instr i) : encode i = w := by
  unfold decode at h
  split_ifs at h with hop hop hop hie hop hnow hop hop
  · exact encode_of_decodePlain (by rw [hop, encode]) h
  · exact encode_of_decodePlain (by rw [hop, encode]) h
  · obtain rfl := Decoded.instr.inj h
    exact packWord_eq_iff.2 ⟨hop, hie, rfl⟩
  · obtain rfl := Decoded.instr.inj h
    exact packWord_eq_iff.2 ⟨hop, rfl, hnow⟩
  · exact encode_of_decodePlain (by rw [hop, encode]) h
  · exact encode_of_decodePlain (by rw [hop, encode]) h

/-- Settles O3: the fields that a code does not read must be 0, so the word is packed of what the operation says. -/
theorem encodeOfDecode : Obligations.EncodeOfDecode := fun _ _ => encode_of_decode

theorem decode_eq_instr_iff {w : CmdWord} {i : Instr} : decode w = .instr i ↔ encode i = w :=
  ⟨encode_of_decode, fun h => h ▸ decode_encode i⟩

/-! ## The table of masks (R89) -/

theorem spelledBy_row_encode (i : Instr) : i.row.spelledBy (encode i) = true := by
  cases i with
  | init => exact Laws.EncodeRow.init.1
  | iter => exact Laws.EncodeRow.iter.1
  | tick now => exact (Laws.EncodeRow.tick now).1
  | deliver ie => exact (Laws.EncodeRow.deliver ie).1
  | render => exact Laws.EncodeRow.render.1
  | shutdown => exact Laws.EncodeRow.shutdown.1

/-- A word that meets a row's mask and match is the word of an operation of the row; its operand is the field left free. -/
theorem exists_encode_of_spelledBy {w : CmdWord} {r : OpRow} (hr : r ∈ opTable) (h : r.spelledBy w = true) :
    ∃ i : Instr, encode i = w ∧ i.row = r := by
  obtain ⟨hinit, hiter, htick, hdeliver, hrender, hshutdown⟩ := spelledBy_iff w
  simp only [opTable, List.mem_cons, List.not_mem_nil, or_false] at hr
  obtain rfl | rfl | rfl | rfl | rfl | rfl := hr
  · exact ⟨.init, packWord_eq_iff.2 (hinit.1 h), rfl⟩
  · exact ⟨.iter, packWord_eq_iff.2 (hiter.1 h), rfl⟩
  · obtain ⟨hop, hie⟩ := htick.1 h
    exact ⟨.tick (cwNow w), packWord_eq_iff.2 ⟨hop, hie, rfl⟩, rfl⟩
  · obtain ⟨hop, hnow⟩ := hdeliver.1 h
    exact ⟨.deliver (cwIe w), packWord_eq_iff.2 ⟨hop, rfl, hnow⟩, rfl⟩
  · exact ⟨.render, packWord_eq_iff.2 (hrender.1 h), rfl⟩
  · exact ⟨.shutdown, packWord_eq_iff.2 (hshutdown.1 h), rfl⟩

theorem spelledBy_iff_decode {w : CmdWord} {r : OpRow} (hr : r ∈ opTable) :
    r.spelledBy w = true ↔ ∃ i, decode w = .instr i ∧ i.row = r := by
  constructor
  · intro h
    obtain ⟨i, hi, hrow⟩ := exists_encode_of_spelledBy hr h
    exact ⟨i, decode_eq_instr_iff.2 hi, hrow⟩
  · rintro ⟨i, hi, rfl⟩
    exact encode_of_decode hi ▸ spelledBy_row_encode i

/-- Settles O4: a word that two rows spell decodes to one operation, whose row both are. -/
theorem decodeAgreesWithTable : Obligations.DecodeAgreesWithTable := by
  refine ⟨fun w r => spelledBy_iff_decode, ?disjoint⟩
  intro w r q hr hq hrw hqw
  obtain ⟨i, hi, rfl⟩ := (spelledBy_iff_decode hr).1 hrw
  obtain ⟨j, hj, rfl⟩ := (spelledBy_iff_decode hq).1 hqw
  rw [Decoded.instr.inj (hi.symm.trans hj)]

theorem wordWf_iff_decode (w : CmdWord) : wordWf w = true ↔ ∃ i, decode w = .instr i := by
  rw [wordWf, List.any_eq_true]
  constructor
  · rintro ⟨r, hr, hspelled⟩
    obtain ⟨i, hi, -⟩ := (spelledBy_iff_decode hr).1 hspelled
    exact ⟨i, hi⟩
  · rintro ⟨i, hi⟩
    exact ⟨i.row, row_mem_opTable i, (spelledBy_iff_decode (row_mem_opTable i)).2 ⟨i, hi, rfl⟩⟩

/-- Settles O1: the decoder, run on the words of R99. -/
theorem workedEncodingsDecode : Obligations.WorkedEncodingsDecode := by
  unfold Obligations.WorkedEncodingsDecode
  decide

end Sys2Proof
end

section
/-! Steps with a command word queued (spec/30_encoding.md R88, R91), and admission by run state (R96). -/

namespace Sys2Proof.Machine

/-! ## Queued words -/

section
variable {s : State} {w : CmdWord} {rest : List CmdWord}

theorem fetchNext_of_queued (hq : s.cmds = w :: rest) : fetchNext s = fetchWord w { s with cmds := rest } := by
  simp only [fetchNext, hq]

theorem step_of_instr {i : Instr} (hq : s.cmds = w :: rest) (hd : decode w = .instr i) :
    step s = exec i { s with cmds := rest } := by
  simp only [step, fetchNext_of_queued hq, fetchWord, hd]

theorem step_of_reservedOp (hq : s.cmds = w :: rest) (hd : decode w = .reservedOp) : step s = .refused .reservedOp := by
  simp only [step, fetchNext_of_queued hq, fetchWord, hd]

theorem step_of_mustBeZero (hq : s.cmds = w :: rest) (hd : decode w = .mustBeZero) : step s = .refused .mustBeZero := by
  simp only [step, fetchNext_of_queued hq, fetchWord, hd]

end

/-- Settles O6: the word is taken off the queue and its operation run. -/
theorem stepRunsQueuedOperation : Obligations.StepRunsQueuedOperation := fun _ _ _ _ hq _ hd => step_of_instr hq hd

/-- Settles O5: the decoder names the reason a word is reserved, and a step refuses by that name. -/
theorem reservedWordsAreRefused : Obligations.ReservedWordsAreRefused := by
  intro s w rest hq
  refine ⟨?reserved, ?plain, ?tick, ?deliver, wordWf_iff_decode w⟩
  case reserved => exact fun hop => step_of_reservedOp hq (decode_opReserved hop)
  case plain =>
    intro hop hfield
    refine step_of_mustBeZero hq ?_
    obtain hop | hop | hop | hop := hop
    · exact (decode_opInit hop).trans (decodePlain_mustBeZero hfield _)
    · exact (decode_opIter hop).trans (decodePlain_mustBeZero hfield _)
    · exact (decode_opRender hop).trans (decodePlain_mustBeZero hfield _)
    · exact (decode_opShutdown hop).trans (decodePlain_mustBeZero hfield _)
  case tick =>
    intro hop hie
    exact step_of_mustBeZero hq ((decode_opTick hop).trans (if_neg (by simp [hie])))
  case deliver =>
    intro hop hnow
    exact step_of_mustBeZero hq ((decode_opDeliver hop).trans (if_neg hnow))

/-! ## Admission (R96) -/

theorem admitted_init_iff {r : Run} : admitted r .init = true ↔ r = .off := by
  cases r with
  | off | running | exited _ => simp [admitted]

theorem admitted_iff_running {r : Run} {i : Instr} (hi : i ≠ .init) : admitted r i = true ↔ r = .running := by
  cases i with
  | init => exact absurd rfl hi
  | iter | tick _ | deliver _ | render | shutdown =>
    cases r with
    | off | running | exited _ => simp [admitted]

theorem execInit_of_ne_off {s : State} (hrun : s.run ≠ .off) : execInit s = .refused .notAdmitted := by
  unfold execInit
  cases h : s.run with
  | off => exact absurd h hrun
  | running | exited _ => rfl

theorem whenRunning_of_ne_running (f : Env → State → State) {s : State} (hrun : s.run ≠ .running) :
    whenRunning f s = .refused .notAdmitted := by
  unfold whenRunning
  cases h : s.run with
  | running => exact absurd h hrun
  | off | exited _ => rfl

/-- Every operation but `INIT` is run under the one admission rule. -/
theorem exists_exec_eq_whenRunning {i : Instr} (hi : i ≠ .init) : ∃ f, exec i = whenRunning f := by
  cases i with
  | init => exact absurd rfl hi
  | iter => exact ⟨iterate, rfl⟩
  | tick now => exact ⟨fun e s => tick e now s, rfl⟩
  | deliver ie => exact ⟨fun _ s => deliver ie s, rfl⟩
  | render => exact ⟨fun e s => (render e s).state, rfl⟩
  | shutdown => exact ⟨fun _ s => shutdown s, rfl⟩

/-- Settles O8: `INIT` is admitted in OFF and every other operation while RUNNING, by the table and by `exec` alike. -/
theorem admissionByRunState : Obligations.AdmissionByRunState := by
  intro i s
  by_cases hi : i = .init
  · subst hi
    rw [← Bool.not_eq_true, admitted_init_iff]
    exact ⟨fun hrun => ⟨_, execInit_next.2 ⟨hrun, rfl⟩⟩, execInit_of_ne_off⟩
  · obtain ⟨f, hf⟩ := exists_exec_eq_whenRunning hi
    rw [← Bool.not_eq_true, admitted_iff_running hi, hf]
    exact ⟨fun hrun => ⟨_, whenRunning_next.2 ⟨hrun, rfl⟩⟩, whenRunning_of_ne_running f⟩

/-! ## Output codes (R83 to R85) -/

/-- The result's code is 00b without a vector, and has its valid bit with one. -/
theorem resultCode_ne_one (r : Option Vec) : resultCode r ≠ 0b01#2 := by
  cases r with
  | none => decide
  | some v =>
    cases v with
    | v1 | v2 => decide

theorem statusCode_ne_three (c : ExitStatus) : statusCode c ≠ 0b11#2 := by
  revert c
  decide

/-- Settles O50: the codes by evaluation, and no result or status has the code left over. -/
theorem outputCodes : Obligations.OutputCodes :=
  ⟨rfl, rfl, rfl, resultCode_ne_one, rfl, rfl, rfl, statusCode_ne_three, rfl, rfl⟩

end Sys2Proof.Machine
end

section
/-! `TICK` and `DELIVER`, one equation for each thing they can do (spec/40_scheduler.md R110 to R114, R122). -/

namespace Sys2Proof.Machine

/-! ## The clock (R110, R122) -/

/-- Settles O13: the subtraction of words is the plain difference unless it wraps. -/
theorem elapsedAndCrossing : Obligations.ElapsedAndCrossing := by
  intro threshold now last
  have hnow := now.isLt
  have hlast := last.isLt
  have hwrap : (elapsed now last).toNat = (2 ^ 32 - last.toNat + now.toNat) % 2 ^ 32 := BitVec.toNat_sub now last
  exact ⟨fun hforward => by omega, fun hback => by omega, crossing_iff⟩

/-! ## The direct commands -/

section
variable {s : State}

theorem exec_tick (hrun : s.run = .running) (now : Millis) : exec (.tick now) s = .next (tick s.env now s.begun) :=
  (whenRunning_next (f := fun e u => tick e now u)).2 ⟨hrun, rfl⟩

theorem exec_deliver (hrun : s.run = .running) (ie : Bool) : exec (.deliver ie) s = .next (deliver ie s.begun) :=
  (whenRunning_next (f := fun _ u => deliver ie u)).2 ⟨hrun, rfl⟩

end

/-! ## `TICK` -/

section
variable {e : Env} {now : Millis} {s t : State}

theorem tick_of_idle (hc : (now - s.lastTick).toNat < s.cfg.params.threshold) : tick e now s = s :=
  if_neg fun h => Nat.not_le.2 hc (crossing_iff.1 h)

theorem tick_of_crossing (hc : s.cfg.params.threshold ≤ (now - s.lastTick).toNat) :
    tick e now s = finishCrossing e (latchCrossing now s) := if_pos (crossing_iff.2 hc)

theorem tick_of_v2 (hc : s.cfg.params.threshold ≤ (now - s.lastTick).toNat) (hv : s.nextVector = .v2) :
    tick e now s = raiseRequest (latchCrossing now s) := by
  simp [tick_of_crossing hc, finishCrossing, hv]

theorem tick_of_render_done (hc : s.cfg.params.threshold ≤ (now - s.lastTick).toNat) (hv : s.nextVector = .v1)
    (hr : render e (latchCrossing now s) = .done t) : tick e now s = raiseRequest t := by
  simp [tick_of_crossing hc, finishCrossing, hv, hr]

/-- R123: nothing follows a fatal render. -/
theorem tick_of_render_fatal (hc : s.cfg.params.threshold ≤ (now - s.lastTick).toNat) (hv : s.nextVector = .v1)
    (hr : render e (latchCrossing now s) = .fatal t) : tick e now s = t := by
  simp [tick_of_crossing hc, finishCrossing, hv, hr]

end

/-- Settles O14: below the threshold `TICK` is the identity. -/
theorem tickBelowThresholdChangesNothing : Obligations.TickBelowThresholdChangesNothing := by
  intro s now hrun hbelow
  rw [exec_tick hrun, tick_of_idle (s := s.begun) hbelow]

/-- Settles O15: the register writes of the crossing, then the request, and nothing between them. -/
theorem tickMakesV1Next : Obligations.TickMakesV1Next := by
  intro s now hrun hnext hcross
  rw [exec_tick hrun, tick_of_v2 (s := s.begun) hcross hnext]
  simp [raiseRequest, latchCrossing, hnext]

/-! ## `DELIVER` -/

section
variable {s : State} {ie : Bool}

theorem deliver_of_enabled (hp : s.pending = true) (hie : ie = true) :
    deliver ie s = { s with pending := false, result := some s.latchedVector } := if_pos ⟨hp, hie⟩

theorem deliver_of_masked (h : s.pending = false ∨ ie = false) : deliver ie s = { s with result := none } := by
  refine if_neg fun hboth => ?_
  obtain ⟨hp, hie⟩ := hboth
  simp [hp, hie] at h

end

/-- Settles O18: the two branches of R114. -/
theorem deliverReturnsSnapshotOrNothing : Obligations.DeliverReturnsSnapshotOrNothing := by
  intro s ie hrun
  rw [exec_deliver hrun]
  exact ⟨fun hp hie => congrArg _ (deliver_of_enabled (s := s.begun) hp hie),
    fun hmasked => congrArg _ (deliver_of_masked (s := s.begun) hmasked)⟩

end Sys2Proof.Machine
end

section
/-! The whole state a render ends in, for each of its ends, and so the whole state an even crossing ends in
(spec/41_video_decoder.md R140 to R144; spec/60_exceptions.md R202 to R204; spec/40_scheduler.md R111, R123). -/

namespace Sys2Proof.Machine

/-! ## `RENDER` -/

section
variable {e : Env} {s u : State}

/-- A draw changes the buffer's words and its lock, and adds its three events. -/
theorem drawn_eq (e : Env) (h : u.pbCreated = true) :
    drawn e u = { u with
      pbLocked := false, pb := (drawn e u).pb, trace := u.trace ++ [.lock, .unlock, .present (drawn e u).pb] } := by
  simp [drawn, drawFrame, h, lockBuffer, unlockBuffer, presentFrame, State.emit]

/-- The fatal path with a buffer to release (R204). -/
theorem raiseFatal_of_created (kind : ReportKind) (c : ExitStatus) (h : s.pbCreated = true) :
    raiseFatal kind c s = { s with
      run := .exited c, pbCreated := false, pb := []
      trace := s.trace ++ [.report kind, .releasePixelBuffer, .releasePresentation, .exit c] } := by
  simp [raiseFatal, exitWith, releaseAll, releaseBuffer, State.emit, h]

/-- The fatal path without a buffer (R204). -/
theorem raiseFatal_of_not_created (kind : ReportKind) (c : ExitStatus) (h : s.pbCreated = false) :
    raiseFatal kind c s = { s with
      run := .exited c, trace := s.trace ++ [.report kind, .releasePresentation, .exit c] } := by
  simp [raiseFatal, exitWith, releaseAll, State.emit, h]

/-- Before its lock a render has at most created the buffer (R141). -/
theorem LocksIn.eq_created (h : LocksIn e s u) :
    u = { s with pbCreated := true, pb := u.pb, trace := s.trace ++ if s.pbCreated = true then [] else [.create] } := by
  obtain ⟨hc, rfl⟩ | ⟨hc, -, rfl⟩ := h
  · simp [← hc]
  · simp [createBuffer, State.emit, hc]

theorem render_eq_done (hlen : s.pbCreated = true → s.pb.length = s.cfg.params.npix)
    (hb : s.pbCreated = true ∨ e.create = .ok) (hl : e.lock = .ok) :
    render e s = .done { s with
      pbCreated := true, pbLocked := false, pb := decodeFrame s.cfg.params (region e s)
      trace := s.trace ++ (if s.pbCreated = true then [] else [.create]) ++
        [.lock, .unlock, .present (decodeFrame s.cfg.params (region e s))] } := by
  obtain ⟨u, hu, hr⟩ := render_eq_done_drawn hb hl
  rw [hr, drawn_eq e hu.created, hu.drawn_pb hlen, hu.eq_created]

/-- A render that gets its buffer but not its lock is fatal (R142). -/
theorem render_eq_fatal_of_lock (hb : s.pbCreated = true ∨ e.create = .ok) (hl : e.lock = .fail) :
    render e s = .fatal { s with
      run := .exited exitLock, pbCreated := false, pb := []
      trace := s.trace ++ (if s.pbCreated = true then [] else [.create]) ++
        [.lock, .report .lockFailure, .releasePixelBuffer, .releasePresentation, .exit exitLock] } := by
  have hlocks : ∃ u, LocksIn e s u ∧ render e s = .fatal (raiseFatal .lockFailure exitLock (u.emit .lock)) := by
    refine render_cases (P := fun r => ∃ u, LocksIn e s u ∧ r = .fatal (raiseFatal .lockFailure exitLock (u.emit .lock)))
      e s ?createFails ?lockFails ?draws
    case createFails => intro hc hfail; simp [hc, hfail] at hb
    case lockFails => intro u hu _; exact ⟨u, hu, rfl⟩
    case draws => intro u _ hok; simp [hl] at hok
  obtain ⟨u, hu, hr⟩ := hlocks
  rw [hr, raiseFatal_of_created (s := u.emit .lock) _ _ hu.created, hu.eq_created]
  simp [State.emit]

/-- A first render that cannot create the buffer is fatal, and there is no buffer to release (R203). -/
theorem render_eq_fatal_of_create (hb : s.pbCreated = false) (hc : e.create = .fail) :
    render e s = .fatal { s with
      run := .exited s.cfg.params.exitCreate
      trace := s.trace ++
        [.create, .report .createFailure, .releasePresentation, .exit s.cfg.params.exitCreate] } := by
  have hr : render e s = .fatal (raiseFatal .createFailure s.cfg.params.exitCreate (s.emit .create)) := by
    simp [render, hb, hc]
  rw [hr, raiseFatal_of_not_created (s := s.emit .create) _ _ hb]
  simp [State.emit]

end

/-! ## An even crossing -/

theorem latchCrossing_of_v1 (now : Millis) {s : State} (hv : s.nextVector = .v1) :
    latchCrossing now s = { s with lastTick := now, nextVector := .v2, latchedVector := .v2 } := by
  simp [latchCrossing, hv]

/-- Settles O16: the render of the latched state, then the request; the region is read as before the crossing. -/
theorem tickRendersWhenV2BecomesNext : Obligations.TickRendersWhenV2BecomesNext := by
  intro s now hrun hnext hcross hlen hbuf hlock
  have hr := render_eq_done (e := s.env) (s := latchCrossing now s.begun) hlen hbuf hlock
  rw [exec_tick hrun, tick_of_render_done (s := s.begun) hcross hnext hr, latchCrossing_of_v1 now (s := s.begun) hnext]
  rfl

/-- Settles O17: the fatal render of the latched state is the end. -/
theorem tickEndsWithFatalRender : Obligations.TickEndsWithFatalRender := by
  intro s now hrun hnext hcross
  have hlatched := latchCrossing_of_v1 now (s := s.begun) hnext
  refine ⟨fun hnone hcreate => ?_, fun hbuf hlock => ?_⟩
  · have hr := render_eq_fatal_of_create (s := latchCrossing now s.begun) hnone hcreate
    rw [exec_tick hrun, tick_of_render_fatal (s := s.begun) hcross hnext hr, hlatched]
    rfl
  · have hr := render_eq_fatal_of_lock (s := latchCrossing now s.begun) hbuf hlock
    rw [exec_tick hrun, tick_of_render_fatal (s := s.begun) hcross hnext hr, hlatched]
    rfl

end Sys2Proof.Machine
end

section
/-! Runs of queued `TICK` and `DELIVER` commands (spec/40_scheduler.md R113, R116 to R119). -/

namespace Sys2Proof.Machine

/-! ## Runs -/

section
variable {s t : State}

theorem run_succ_of_step (h : step s = .next t) (n : Nat) :
    Host.Core.run Sys2Proof.core (n + 1) s = Host.Core.run Sys2Proof.core n t := by
  have hcore : Sys2Proof.core.step s = .next t := h
  simp only [Host.Core.run, hcore]

/-- A run goes on from where its first steps ended. -/
theorem run_add {m : Nat} (h : Host.Core.run Sys2Proof.core m s = .next t) (n : Nat) :
    Host.Core.run Sys2Proof.core (m + n) s = Host.Core.run Sys2Proof.core n t := by
  induction m generalizing s with
  | zero =>
    obtain rfl : s = t := Host.Outcome.next.inj h
    rw [Nat.zero_add]
  | succ m ih =>
    cases hs : step s with
    | next u =>
      rw [Nat.succ_add, run_succ_of_step hs]
      exact ih ((run_succ_of_step hs m).symm.trans h)
    | fault r => exact nomatch r
    | refused r =>
      have hcore : Sys2Proof.core.step s = .refused r := hs
      simp only [Host.Core.run, hcore] at h
      exact nomatch h

theorem run_one (h : step s = .next t) : Host.Core.run Sys2Proof.core 1 s = .next t := run_succ_of_step h 0

theorem step_of_encode {i : Instr} {rest : List CmdWord} (hq : s.cmds = encode i :: rest) :
    step s = exec i { s with cmds := rest } := step_of_instr hq (decode_encode i)

theorem step_deliver {ie : Bool} {rest : List CmdWord} (hrun : s.run = .running)
    (hq : s.cmds = encode (.deliver ie) :: rest) :
    step s = .next (deliver ie ({ s with cmds := rest } : State).begun) :=
  (step_of_encode hq).trans (exec_deliver (s := { s with cmds := rest }) hrun ie)

end

/-! ## A masked request (R116) -/

/-- `DELIVER 0`, any number of times, keeps the request and its snapshot. -/
theorem run_masked (n : Nat) {s : State} {rest : List CmdWord} (hrun : s.run = .running) (hp : s.pending = true)
    (hq : s.cmds = List.replicate n (encode (.deliver false)) ++ rest) :
    ∃ u, Host.Core.run Sys2Proof.core n s = .next u ∧ u.run = .running ∧ u.pending = true ∧
      u.latchedVector = s.latchedVector ∧ u.cmds = rest ∧ (n ≠ 0 → u.result = none) := by
  induction n generalizing rest with
  | zero => exact ⟨s, rfl, hrun, hp, rfl, hq, fun h => absurd rfl h⟩
  | succ n ih =>
    obtain ⟨u, hreach, hurun, hup, hul, huq, -⟩ := ih (rest := encode (.deliver false) :: rest) (by
      rw [hq, List.replicate_succ', List.append_assoc, List.singleton_append])
    exact ⟨_, (run_add hreach 1).trans (run_one (step_deliver hurun huq)), by simp [hurun], by simp [hup],
      by simp [hul], by simp, fun _ => by simp⟩

/-- Settles O19: by induction the request outlives the masked attempts, and the next `DELIVER` finds it. -/
theorem maskedRequestIsDeferred : Obligations.MaskedRequestIsDeferred := by
  intro n s rest hrun hp hq
  obtain ⟨u, hreach, hurun, hup, hul, huq, hresult⟩ := run_masked n hrun hp hq
  refine ⟨⟨u, hreach, hup, hresult⟩, _, (run_add hreach 1).trans (run_one (step_deliver hurun huq)), ?_, ?_⟩
  · simp
  · simp [hup, hul]

/-! ## A script that grants buffers -/

/-- The answers of the next `n` operations grant the buffer and its lock. -/
def Grants (n : Nat) (script : List Answers) : Prop :=
  n ≤ script.length ∧ ∀ a ∈ script.take n, a.create = some .ok ∧ a.lock = some .ok

theorem Grants.tail {n : Nat} {script : List Answers} (h : Grants (n + 1) script) : Grants n script.tail := by
  obtain ⟨hlen, hok⟩ := h
  cases script with
  | nil => simp at hlen
  | cons a l => exact ⟨Nat.le_of_succ_le_succ hlen, fun b hb => hok b (List.mem_cons_of_mem a hb)⟩

theorem Grants.env {n : Nat} {s : State} (h : Grants (n + 1) s.script) : s.env.create = .ok ∧ s.env.lock = .ok := by
  obtain ⟨hlen, hok⟩ := h
  cases hs : s.script with
  | nil => simp [hs] at hlen
  | cons a l =>
    obtain ⟨hcreate, hlock⟩ := hok a (by simp [hs])
    simp [State.env, resolve, hs, hcreate, hlock]

/-! ## One crossing -/

/-- The frames a crossing presents when `v` was next: one, when it makes `V2` next (R118). -/
def framesAt : Vec → Nat
  | .v1 => 1
  | .v2 => 0

/-- What a granted crossing has done, and what it has left alone (R111). -/
structure Crossed (now : Millis) (s t : State) : Prop where
  cfg           : t.cfg = s.cfg
  run           : t.run = s.run
  nextVector    : t.nextVector = s.nextVector.toggle
  latchedVector : t.latchedVector = s.nextVector.toggle
  lastTick      : t.lastTick = now
  pending       : t.pending = true
  frames        : t.trace.countP isPresent = s.trace.countP isPresent + framesAt s.nextVector
  script        : t.script = s.script
  cmds          : t.cmds = s.cmds

theorem LocksIn.keeps_scheduler_and_inputs {e : Env} {s u : State} (h : LocksIn e s u) :
    u.nextVector = s.nextVector ∧ u.latchedVector = s.latchedVector ∧ u.lastTick = s.lastTick ∧
    u.script = s.script ∧ u.cmds = s.cmds := by
  rw [h.eq_created]
  exact ⟨rfl, rfl, rfl, rfl, rfl⟩

/-- A draw presents one frame. -/
theorem LocksIn.drawn_frames {e : Env} {s u : State} (h : LocksIn e s u) :
    (drawn e u).trace.countP isPresent = s.trace.countP isPresent + 1 := by
  rw [drawn_trace, h.eq_created]
  cases s.pbCreated with
  | true => simp [isPresent]
  | false => simp [isPresent]

theorem crossed_tick {e : Env} {now : Millis} {s : State} (hc : crossing s.cfg.params.threshold now s.lastTick = true)
    (hcreate : e.create = .ok) (hlock : e.lock = .ok) : Crossed now s (tick e now s) := by
  cases hv : s.nextVector with
  | v2 =>
    rw [tick_of_v2 (crossing_iff.1 hc) hv]
    exact
      { cfg := rfl, run := rfl, nextVector := rfl, latchedVector := rfl, lastTick := rfl, pending := rfl
        frames := by simp [hv, framesAt], script := rfl, cmds := rfl }
  | v1 =>
    obtain ⟨u, hu, htick⟩ := tick_eq_raiseRequest_drawn hc hv (.inr hcreate) hlock
    obtain ⟨hnext, hlatched, hlast, hscript, hcmds⟩ := hu.keeps_scheduler_and_inputs
    rw [htick]
    exact
      { cfg := by simp [hu.cfg], run := by simp [hu.run], nextVector := by simp [hnext]
        latchedVector := by simp [hlatched], lastTick := by simp [hlast], pending := rfl
        frames := by simp [hu.drawn_frames, hv, framesAt], script := by simp [hscript], cmds := by simp [hcmds] }

/-- A queued `TICK` crosses from the state less its word and its answers. -/
theorem step_crossing {n : Nat} {now : Millis} {s : State} {rest : List CmdWord} (hrun : s.run = .running)
    (hq : s.cmds = encode (.tick now) :: rest) (hg : Grants (n + 1) s.script)
    (hc : crossing s.cfg.params.threshold now s.lastTick = true) :
    ∃ t, step s = .next t ∧ Crossed now ({ s with cmds := rest } : State).begun t := by
  obtain ⟨hcreate, hlock⟩ := hg.env
  exact ⟨_, (step_of_encode hq).trans (exec_tick (s := { s with cmds := rest }) hrun now),
    crossed_tick (s := ({ s with cmds := rest } : State).begun) hc hcreate hlock⟩

/-! ## Every second crossing presents a frame (R113, R118, R119) -/

/-- The frames that `n` crossings in a row present, the first of them with `v` next. -/
def framesFrom : Vec → Nat → Nat
  | _, 0 => 0
  | v, n + 1 => framesAt v + framesFrom v.toggle n

/-- Of two crossings in a row one presents a frame, and the vectors are back where they were. -/
theorem framesFrom_add_two (v : Vec) (n : Nat) : framesFrom v (n + 2) = framesFrom v n + 1 := by
  cases v with
  | v1 => simp only [framesFrom, framesAt, Vec.toggle_v1, Vec.toggle_v2]; omega
  | v2 => simp only [framesFrom, framesAt, Vec.toggle_v1, Vec.toggle_v2]; omega

theorem framesFrom_v2 (n : Nat) : framesFrom .v2 n = n / 2 := by
  induction n using Nat.twoStepInduction with
  | zero => rfl
  | one => rfl
  | more n ih _ => rw [framesFrom_add_two, ih]; omega

theorem iterate_toggle (v : Vec) (n : Nat) : Vec.toggle^[n] v = if n % 2 = 0 then v else v.toggle := by
  have hinvolutive : Function.Involutive Vec.toggle := Vec.toggle_toggle
  split_ifs with hn
  · rw [hinvolutive.iterate_even (Nat.even_iff.2 hn), id]
  · rw [hinvolutive.iterate_odd (Nat.odd_iff.2 (Nat.mod_two_ne_zero.1 hn))]

/-- What a run of granted crossings has done. -/
structure CrossedAll (nows : List Millis) (s t : State) : Prop where
  run        : t.run = .running
  nextVector : t.nextVector = Vec.toggle^[nows.length] s.nextVector
  frames     : t.trace.countP isPresent = s.trace.countP isPresent + framesFrom s.nextVector nows.length
  pending    : t.pending = (s.pending || !nows.isEmpty)
  lastTick   : t.lastTick = nows.getLastD s.lastTick

theorem run_crossings (nows : List Millis) {s : State} {rest : List CmdWord} (hrun : s.run = .running)
    (hq : s.cmds = nows.map (fun now => encode (.tick now)) ++ rest) (hg : Grants nows.length s.script)
    (hc : allCross s.cfg.params.threshold s.lastTick nows = true) :
    ∃ t, Host.Core.run Sys2Proof.core nows.length s = .next t ∧ CrossedAll nows s t := by
  induction nows generalizing s with
  | nil => exact ⟨s, rfl, { run := hrun, nextVector := rfl, frames := rfl, pending := by simp, lastTick := rfl }⟩
  | cons now nows ih =>
    obtain ⟨hfirst, hothers⟩ := Bool.and_eq_true_iff.1 hc
    obtain ⟨u, hstep, hu⟩ := step_crossing hrun hq hg hfirst
    obtain ⟨t, hreach, ht⟩ := ih (s := u) (hu.run.trans hrun) hu.cmds (hu.script ▸ hg.tail)
      (by rwa [hu.cfg, hu.lastTick])
    refine ⟨t, (run_succ_of_step hstep _).trans hreach, ?_⟩
    exact
      { run := ht.run
        nextVector := by simp [ht.nextVector, hu.nextVector]
        frames := by simp [ht.frames, hu.frames, hu.nextVector, framesFrom, Nat.add_assoc]
        pending := by simp [ht.pending, hu.pending]
        lastTick := by rw [ht.lastTick, hu.lastTick, List.getLastD_cons] }

/-- Settles O40: a run of crossings from `V2` next. -/
theorem renderEverySecondCrossing : Obligations.RenderEverySecondCrossing := by
  intro nows s rest hrun hnext hq hlen hok hc
  obtain ⟨t, hreach, ht⟩ := run_crossings nows hrun hq ⟨hlen, hok⟩ hc
  refine ⟨t, hreach, ht.run, ?vector, ?frames, ?pending, ht.lastTick⟩
  case vector => rw [ht.nextVector, hnext, iterate_toggle, Vec.toggle_v2]
  case frames => rw [ht.frames, hnext, framesFrom_v2]
  case pending => intro hne; simp [ht.pending, hne]

/-! ## Requests merge (R117) -/

/-- What a granted crossing and the `DELIVER` after it have done (R98, R111, R114). -/
structure CrossedAndDelivered (now : Millis) (ie : Bool) (s t : State) : Prop where
  cfg           : t.cfg = s.cfg
  run           : t.run = .running
  nextVector    : t.nextVector = s.nextVector.toggle
  latchedVector : t.latchedVector = s.nextVector.toggle
  lastTick      : t.lastTick = now
  pending       : t.pending = !ie
  result        : t.result = if ie = true then some s.nextVector.toggle else none
  frames        : t.trace.countP isPresent = s.trace.countP isPresent + framesAt s.nextVector

theorem run_crossing_deliver {n : Nat} {now : Millis} {ie : Bool} {s : State} {rest : List CmdWord}
    (hrun : s.run = .running) (hq : s.cmds = encode (.tick now) :: encode (.deliver ie) :: rest)
    (hg : Grants (n + 2) s.script) (hc : crossing s.cfg.params.threshold now s.lastTick = true) :
    ∃ t, Host.Core.run Sys2Proof.core 2 s = .next t ∧ t.cmds = rest ∧ Grants n t.script ∧
      CrossedAndDelivered now ie s t := by
  obtain ⟨u, hstep, hu⟩ := step_crossing hrun hq hg hc
  have hurun : u.run = .running := hu.run.trans hrun
  refine ⟨_, (run_succ_of_step hstep 1).trans (run_one (step_deliver hurun hu.cmds)), by simp, ?script, ?done⟩
  case script => simpa [hu.script] using hg.tail.tail
  case done =>
    exact
      { cfg := by simp [hu.cfg]
        run := by simp [hurun]
        nextVector := by simp [hu.nextVector]
        latchedVector := by simp [hu.latchedVector]
        lastTick := by simp [hu.lastTick]
        pending := by simp [hu.pending]
        result := by simp [hu.pending, hu.latchedVector]
        frames := by simp [hu.frames] }

/-- Settles O20: three crossings, each with its `DELIVER`; the second finds the engine masked. -/
theorem mergedRequestsRepeatAVector : Obligations.MergedRequestsRepeatAVector := by
  intro s a b c rest hrun hnext hall hq hok hlen
  obtain ⟨ha, hb, hc⟩ : crossing s.cfg.params.threshold a s.lastTick = true ∧
      crossing s.cfg.params.threshold b a = true ∧ crossing s.cfg.params.threshold c b = true := by
    simpa [allCross] using hall
  obtain ⟨t, hreach, htq, htg, ht⟩ := run_crossing_deliver (n := 4) hrun hq ⟨hlen, hok⟩ ha
  obtain ⟨u, hreach', huq, hug, hu⟩ := run_crossing_deliver (n := 2) ht.run htq htg (by rwa [ht.cfg, ht.lastTick])
  obtain ⟨v, hreach'', -, -, hv⟩ := run_crossing_deliver (n := 0) hu.run huq hug
    (by rwa [hu.cfg, ht.cfg, hu.lastTick])
  refine ⟨⟨t, hreach, ?first⟩, ⟨u, (run_add hreach 2).trans hreach', ?masked⟩,
    ⟨v, (run_add hreach 4).trans ((run_add hreach' 2).trans hreach''), ?second⟩⟩
  case first => simp [ht.result, hnext]
  case masked => simp [hu.result, hu.pending, hu.latchedVector, ht.nextVector, hnext]
  case second =>
    simp [hv.result, hv.pending, hv.frames, hu.frames, ht.frames, hu.nextVector, ht.nextVector, hnext, framesAt]

end Sys2Proof.Machine
end

section
/-! The decoder as a function of the region's bits, and the direct command `RENDER` (spec/41_video_decoder.md R133 to R146;
spec/60_exceptions.md R202, R204). -/

namespace Sys2Proof.Machine

/-! ## The mapping (R133, R134) -/

section
variable (b : Board) {i : Nat}

/-- R131 to R133: a pixel keeps its column. -/
theorem destIndex_mod (hi : i < b.params.npix) : destIndex b.params i % b.params.w = srcCol b.params i :=
  rowMajor_mod (srcCol_lt b hi)

/-- R131 to R133: a pixel's row is counted from the other end. -/
theorem destIndex_div (hi : i < b.params.npix) :
    destIndex b.params i / b.params.w = b.params.h - 1 - srcRow b.params i :=
  rowMajor_div (srcCol_lt b hi)

/-- The bottom right pixel has the last index. -/
theorem lastIndex_add_one : (b.params.h - 1) * b.params.w + (b.params.w - 1) + 1 = b.params.npix := by
  obtain ⟨hw, hh⟩ := one_le_w_and_h b
  calc (b.params.h - 1) * b.params.w + (b.params.w - 1) + 1
      = (b.params.h - 1) * b.params.w + b.params.w := by omega
    _ = (b.params.h - 1 + 1) * b.params.w := (Nat.succ_mul _ _).symm
    _ = b.params.npix := by rw [Nat.sub_add_cancel hh, Nat.mul_comm, Params.npix]

/-- The pixels are no fewer than the rows. -/
theorem h_le_npix : b.params.h ≤ b.params.npix := Nat.le_mul_of_pos_left _ (one_le_w_and_h b).1

end

/-- The next `j` bits of a source column, where it holds so many, land in the `j` rows above. -/
theorem destIndex_add (p : Params) {i j : Nat} (hrows : srcRow p i + j < p.h) :
    destIndex p (i + j) + j * p.w = destIndex p i := by
  have hsplit : i + j = i / p.h * p.h + (srcRow p i + j) := by
    rw [← Nat.add_assoc]
    exact congrArg (· + j) (Nat.div_add_mod' i p.h).symm
  have hcol : srcCol p (i + j) = srcCol p i := by rw [srcCol, hsplit, rowMajor_div hrows, srcCol]
  have hrow : srcRow p (i + j) = srcRow p i + j := by rw [srcRow, hsplit, rowMajor_mod hrows]
  have hup : p.h - 1 - (srcRow p i + j) + j = p.h - 1 - srcRow p i := by omega
  rw [destIndex, hcol, hrow, Nat.add_right_comm, ← Nat.add_mul, hup, destIndex]

/-- Settles O24: the row and the column of `dest_index` are in range, and the index is the row times `W` plus the column. -/
theorem decoderStaysInBounds : Obligations.DecoderStaysInBounds := by
  intro b i hi
  obtain ⟨hw, hh⟩ := one_le_w_and_h b
  have hcol : i / b.params.h < b.params.w := srcCol_lt b hi
  have hrow : i % b.params.h < b.params.h := srcRow_lt b i
  have hdest := destIndex_lt b hi
  have hrowStart : (b.params.h - 1 - i % b.params.h) * b.params.w ≤ destIndex b.params i := Nat.le_add_right _ _
  have hcolumn : i / b.params.h ≤ destIndex b.params i := Nat.le_add_left _ _
  have hlast := lastIndex_add_one b
  have hrows := h_le_npix b
  have hbyte := div_eight_lt_vramLen b hi
  exact ⟨rfl, destIndex_mod b hi, destIndex_div b hi, hw, hh, Nat.le_sub_one_of_lt hcol, Nat.le_sub_one_of_lt hrow,
    by omega, hlast, by omega, hrowStart.trans_lt hdest, hcolumn.trans_lt hdest, hdest, hbyte,
    regionAddr_lt b ⟨i / 8, hbyte⟩⟩

/-- Settles O25, by the two round trips. -/
theorem mappingIsBijection : Obligations.MappingIsBijection := fun b =>
  ⟨fun _ => rfl, fun _ hi => ⟨destIndex_lt b hi, srcIndex_destIndex b hi⟩,
    fun k hk => ⟨srcIndex_lt b k, destIndex_srcIndex b hk⟩⟩

/-- Settles O31: where `H` is a multiple of 8, so is the row of a byte's first lane, and seven rows stand above it. -/
theorem byteLanesGoUpOneColumn : Obligations.ByteLanesGoUpOneColumn := by
  intro b n j h8 _ hj
  apply destIndex_add
  obtain ⟨q, hq⟩ := Nat.dvd_of_mod_eq_zero h8
  have hrow : srcRow b.params (8 * n) = 8 * (n % q) := by rw [srcRow, hq, Nat.mul_mod_mul_left]
  have hlt := srcRow_lt b (8 * n)
  omega

/-! ## The decode (R136, R137) -/

/-- Settles O26, by the state of the buffer after the first `n` writes. -/
theorem decodeLoopIsDecode : Obligations.DecodeLoopIsDecode := fun b m _ hold => writePixels_eq_decodeFrame b m hold

/-- R137: the word at `k` is the pixel of source bit `src_index(k)`. -/
theorem getElem?_decodeFrame {p : Params} (m : List Byte) {k : Nat} (hk : k < p.npix) :
    (decodeFrame p m)[k]? = some (pix (bitOf m (srcIndex p k))) := by
  simp [decodeFrame, hk]

/-- R137: source bit `i` gives the word at `dest_index(i)`. -/
theorem getElem?_decodeFrame_destIndex (b : Board) (m : List Byte) {i : Nat} (hi : i < b.params.npix) :
    (decodeFrame b.params m)[destIndex b.params i]? = some (pix (bitOf m i)) := by
  rw [getElem?_decodeFrame m (destIndex_lt b hi), srcIndex_destIndex b hi]

/-- Settles O27: `src_index` leads from `dest_index(i)` back to bit `i`. -/
theorem eachBitDecidesItsPixel : Obligations.EachBitDecidesItsPixel := fun b m _ hi =>
  getElem?_decodeFrame_destIndex b m hi

/-- Bits that are all the same give words that are all the same. -/
theorem decodeFrame_eq_replicate (b : Board) {m : List Byte} {c : Bool} (h : ∀ i < b.params.npix, bitOf m i = c) :
    decodeFrame b.params m = List.replicate b.params.npix (pix c) := by
  refine List.eq_replicate_iff.2 ⟨by simp, fun v hv => ?_⟩
  obtain ⟨k, -, rfl⟩ := List.mem_map.1 hv
  rw [h _ (srcIndex_lt b k)]

/-! ## The bits of particular regions (R145, R146) -/

/-- Bit `i` of equal bytes is the byte's own bit, within the region. -/
theorem bitOf_replicate (v : Byte) {n i : Nat} (hi : i / 8 < n) : bitOf (List.replicate n v) i = v.getLsbD (i % 8) := by
  rw [bitOf, List.getD_replicate _ hi]

/-- Settles O30: every bit of the region is the same. -/
theorem uniformRegionsDecodeUniformly : Obligations.UniformRegionsDecodeUniformly := by
  intro b
  refine ⟨decodeFrame_eq_replicate b (c := false) ?zeros, decodeFrame_eq_replicate b (c := true) ?ones⟩
  case zeros =>
    intro i hi
    rw [bitOf_replicate _ (div_eight_lt_vramLen b hi), BitVec.getLsbD_zero]
  case ones =>
    intro i hi
    have hlane : i % 8 < 8 := Nat.mod_lt i (by decide)
    rw [bitOf_replicate _ (div_eight_lt_vramLen b hi), show 0xFF#8 = BitVec.allOnes 8 from rfl, BitVec.getLsbD_allOnes]
    exact decide_eq_true hlane

/-- Among bytes that are 0 but for bit `i`, bit `i` alone is 1. -/
theorem bitOf_set_shiftLeft_one {n j : Nat} (i : Nat) (hj : j / 8 < n) :
    bitOf ((List.replicate n 0#8).set (i / 8) (1#8 <<< (i % 8))) j = decide (j = i) := by
  rw [bitOf, List.getD_eq_getElem?_getD, List.getElem?_set]
  by_cases hbyte : i / 8 = j / 8
  · have hsame : i % 8 = j % 8 ↔ j = i := by omega
    have hlane : i % 8 < 8 := Nat.mod_lt i (by decide)
    simp [hbyte, hj, ← BitVec.twoPow_eq, BitVec.getLsbD_twoPow, hsame, hlane]
  · have hne : j ≠ i := fun h => hbyte (h ▸ rfl)
    simp [hbyte, hj, hne]

/-- Settles O29: the pixel at `k` is white where `src_index(k)` is `i`, which is at `dest_index(i)` alone. -/
theorem singleBitIsOnePixel : Obligations.SingleBitIsOnePixel := by
  rintro b i hi m rfl
  refine ⟨?white, fun k hk hne => ?black⟩
  case white =>
    rw [getElem?_decodeFrame_destIndex b _ hi, bitOf_set_shiftLeft_one i (div_eight_lt_vramLen b hi)]
    simp [pix]
  case black =>
    have hsrc : srcIndex b.params k ≠ i := fun h => hne (h ▸ (destIndex_srcIndex b hk).symm)
    rw [getElem?_decodeFrame _ hk, bitOf_set_shiftLeft_one i (div_eight_lt_vramLen b (srcIndex_lt b k))]
    simp [pix, hsrc]

/-! ## The direct command (R140, R142) -/

theorem exec_render {s : State} (hrun : s.run = .running) : exec .render s = .next (render s.env s.begun).state :=
  (whenRunning_next (f := fun e u => (render e u).state)).2 ⟨hrun, rfl⟩

/-- Settles O21: the render of the begun state, which reads the region as `s` does. -/
theorem renderPresentsDecodedFrame : Obligations.RenderPresentsDecodedFrame := by
  intro s hrun hlen hbuf hlock
  rw [exec_render hrun, render_eq_done (s := s.begun) hlen hbuf hlock]
  rfl

/-- Settles O22: the render of the begun state ends on the fatal path, whose status is 2. -/
theorem lockFailureIsFatal : Obligations.LockFailureIsFatal := by
  intro s hrun hbuf hlock
  rw [exec_render hrun, render_eq_fatal_of_lock (s := s.begun) hbuf hlock]
  rfl

end Sys2Proof.Machine
end

section
/-! The control loop (spec/42_control_loop.md): what a step runs by itself, `INIT` and `SHUTDOWN`, and the whole state each
way through `ITER` ends in (R160 to R172). -/

namespace Sys2Proof.Machine

/-! ## Steps without a queued word (R162, R240) -/

theorem fetchNext_of_empty {s : State} (hq : s.cmds = []) : fetchNext s = autonomous s := by simp only [fetchNext, hq]

/-- Settles O7: with an empty queue a step is the block's own next operation. -/
theorem stepRunsByItself : Obligations.StepRunsByItself := by
  intro s hq
  rw [step, fetchNext_of_empty hq, autonomous]
  exact ⟨fun hrun => by rw [hrun], fun hrun => by rw [hrun], fun c hrun => by rw [hrun]⟩

/-! ## `INIT` (R160) -/

theorem exec_init {s : State} (hrun : s.run = .off) : exec .init s = .next (initBlock s.env s.begun) :=
  execInit_next.2 ⟨hrun, rfl⟩

/-- Settles O10: the event, then R40's values. -/
theorem initSetsResetValues : Obligations.InitSetsResetValues := by
  intro s hrun hok
  rw [exec_init hrun, initBlock, hok]
  rfl

/-- Settles O11: three events and the run state; nothing is released. -/
theorem initFailureExitsOne : Obligations.InitFailureExitsOne := by
  intro s hrun hfail
  rw [exec_init hrun, initBlock, hfail]
  simp [exitWith, exitInit, State.emit]

/-! ## The teardown (R170) -/

/-- A teardown with status 0, whether or not there is a buffer. -/
theorem shutdown_eq (s : State) :
    shutdown s = { s with
      run := .exited 0, pbCreated := false, pb := if s.pbCreated = true then [] else s.pb
      trace := s.trace ++ releaseEvents s.pbCreated ++ [.exit 0] } := by
  cases hc : s.pbCreated with
  | true => simp [shutdown, exitWith, exitOk, releaseAll, releaseBuffer, releaseEvents, State.emit, hc]
  | false => simp [shutdown, exitWith, exitOk, releaseAll, releaseEvents, State.emit, hc]

theorem exec_shutdown {s : State} (hrun : s.run = .running) : exec .shutdown s = .next (shutdown s.begun) :=
  (whenRunning_next (f := fun _ u => shutdown u)).2 ⟨hrun, rfl⟩

/-- Settles O12: the teardown with the buffer and without it. -/
theorem shutdownReleasesAndExits : Obligations.ShutdownReleasesAndExits := by
  intro s hrun
  rw [exec_shutdown hrun, shutdown_eq]
  exact ⟨fun hc => by simp [hc, releaseEvents], fun hc => by simp [hc, releaseEvents]⟩

/-! ## The phases of `ITER` before its `TICK`, with and without a vector (R163, R165, R166) -/

section
variable {e : Env} {s : State}

theorem delivered_of_masked (h : s.pending = false ∨ e.ie = false) :
    delivered e s = { s with result := none, trace := s.trace ++ [.pollQuit, .readIE] } := by
  rw [delivered, deliver_of_masked (s := (s.emit .pollQuit).emit .readIE) h]
  simp [State.emit]

theorem delivered_of_enabled (hp : s.pending = true) (hie : e.ie = true) :
    delivered e s = { s with
      pending := false, result := some s.latchedVector, trace := s.trace ++ [.pollQuit, .readIE] } := by
  rw [delivered, deliver_of_enabled (s := (s.emit .pollQuit).emit .readIE) hp hie]
  simp [State.emit]

/-- The engine has executed the vector's identifier and nothing else yet (R165). -/
theorem beforeFetch_of_enabled (hp : s.pending = true) (hie : e.ie = true) :
    beforeFetch e s = { s with
      pending := false, result := some s.latchedVector, mem := engineWrites s.cfg.params s.mem e.vecWrites
      trace := s.trace ++ [.pollQuit, .readIE, .exec (vecCode s.cfg.params s.latchedVector)] } := by
  simp [beforeFetch, delivered_of_enabled hp hie, execEngine, State.emit]

theorem fetched_of_masked (h : s.pending = false ∨ e.ie = false) :
    fetched e s = { s with
      result := none, mem := engineWrites s.cfg.params s.mem e.opWrites
      trace := s.trace ++ [.pollQuit, .readIE, .fetch, .exec e.op] } := by
  simp [fetched, beforeFetch, delivered_of_masked h, execEngine, State.emit]

/-- R166: the fetched operation is executed after the vector. -/
theorem fetched_of_enabled (hp : s.pending = true) (hie : e.ie = true) :
    fetched e s = { s with
      pending := false, result := some s.latchedVector
      mem := engineWrites s.cfg.params (engineWrites s.cfg.params s.mem e.vecWrites) e.opWrites
      trace := s.trace ++
        [.pollQuit, .readIE, .exec (vecCode s.cfg.params s.latchedVector), .fetch, .exec e.op] } := by
  simp [fetched, beforeFetch_of_enabled hp hie, execEngine, State.emit]

theorem delivered_result_of_masked (h : s.pending = false ∨ e.ie = false) : (delivered e s).result = none := by
  rw [delivered_of_masked h]

/-! ## The ways through `ITER` (R163, R164, R167) -/

theorem exec_iter (hrun : s.run = .running) : exec .iter s = .next (iterate s.env s.begun) :=
  whenRunning_next.2 ⟨hrun, rfl⟩

theorem iterate_of_quit (hq : e.quit = true) : iterate e s = shutdown (s.emit .pollQuit) := if_pos hq

theorem iterate_of_not_quit (hq : e.quit = false) : iterate e s = afterDeliver e (delivered e s) :=
  if_neg (by simp [hq])

/-- A halt for the vector comes before the fetch. -/
theorem iterate_of_vecHalt (hq : e.quit = false) (hp : s.pending = true) (hie : e.ie = true) (hv : e.hv = true) :
    iterate e s = shutdown (beforeFetch e s) := by
  simp [iterate_of_not_quit hq, afterDeliver, phaseVec, beforeFetch, hp, hie, hv]

/-- A halt for the fetched operation comes before the clock's sample. -/
theorem iterate_of_opHalt (hq : e.quit = false) (hd : (delivered e s).result = none ∨ e.hv = false) (hh : e.h = true) :
    iterate e s = shutdown (fetched e s) := by
  refine iterate_cases (P := fun t => t = shutdown (fetched e s)) e s ?quit ?vecHalt ?opHalt ?whole
  case quit => intro hquit; simp [hq] at hquit
  case vecHalt => intro x _ hx hv; rw [hx] at hd; simp [hv] at hd
  case opHalt => intro _ _ _; rfl
  case whole => intro _ _ hgoes; simp [hh] at hgoes

/-- Every other way through `ITER` than its `TICK` ends the run. -/
theorem iterate_eq_tick_of_running (h : (iterate e s).run = .running) :
    iterate e s = tick e e.now ((fetched e s).emit .now) := by
  revert h
  refine iterate_cases (P := fun t => t.run = .running → t = tick e e.now ((fetched e s).emit .now)) e s
    ?quit ?vecHalt ?opHalt ?whole
  case quit => intro _ hrun; simp at hrun
  case vecHalt => intro x _ _ _ hrun; simp at hrun
  case opHalt => intro _ _ _ hrun; simp at hrun
  case whole => intro _ _ _ _; rfl

/-- An outcome that is a `TICK`'s is the state before it when the sample is below the threshold (R112). -/
theorem next_of_tick {o : Host.Outcome State Fault Refusal} {now : Millis} (h : o = .next (tick e now s)) :
    o = .next (tick e now s) ∧ ((now - s.lastTick).toNat < s.cfg.params.threshold → o = .next s) :=
  ⟨h, fun hbelow => h.trans (congrArg _ (tick_of_idle hbelow))⟩

end

/-- Settles O33: the teardown right after the poll. -/
theorem quitEndsBeforeAnything : Obligations.QuitEndsBeforeAnything := by
  intro s hrun hq
  rw [exec_iter hrun, iterate_of_quit hq, shutdown_eq]
  rfl

/-- Settles O34: the teardown of the state in which only the vector has been executed. -/
theorem vectorHaltEndsRun : Obligations.VectorHaltEndsRun := by
  intro s hrun hq hp hie hv
  rw [exec_iter hrun, iterate_of_vecHalt (s := s.begun) hq hp hie hv, beforeFetch_of_enabled (s := s.begun) hp hie,
    shutdown_eq]
  rfl

/-- Settles O35: the teardown of the state after the fetched operation, without a vector and with one. -/
theorem operationHaltEndsRun : Obligations.OperationHaltEndsRun := by
  intro s hrun hq hh
  refine ⟨fun hmasked => ?masked, fun hp hie hv => ?enabled⟩
  case masked =>
    rw [exec_iter hrun, iterate_of_opHalt hq (.inl (delivered_result_of_masked (s := s.begun) hmasked)) hh,
      fetched_of_masked (s := s.begun) hmasked, shutdown_eq]
    rfl
  case enabled =>
    rw [exec_iter hrun, iterate_of_opHalt hq (.inr hv) hh, fetched_of_enabled (s := s.begun) hp hie, shutdown_eq]
    rfl

/-- Settles O36: the `ITER` comes to its `TICK`, which below the threshold is the identity. -/
theorem iterationWithoutVector : Obligations.IterationWithoutVector := by
  intro s hrun hq hmasked hh
  refine next_of_tick ?_
  rw [exec_iter hrun, iterate_eq_tick hq (.inl (delivered_result_of_masked (s := s.begun) hmasked)) hh,
    fetched_of_masked (s := s.begun) hmasked]
  simp [State.emit]

/-- Settles O37: as without a vector, the vector's execution standing before the fetch. -/
theorem iterationWithVector : Obligations.IterationWithVector := by
  intro s hrun hq hp hie hv hh
  refine next_of_tick ?_
  rw [exec_iter hrun, iterate_eq_tick hq (.inr hv) hh, fetched_of_enabled (s := s.begun) hp hie]
  simp [State.emit]

/-! ## The transactions of one `ITER` (R172) -/

/-- The events of a render that presents `f`; the first one creates the buffer (R140, R141). -/
def renderEvents (created : Bool) (f : List Pixel) : List Event :=
  (if created = true then [] else [.create]) ++ [.lock, .unlock, .present f]

/-- `d` are the events of a `TICK` after which the run goes on: none, or those of one render. -/
def TickEvents (d : List Event) : Prop := d = [] ∨ ∃ created f, d = renderEvents created f

/-- A `TICK` asks nothing that `ITER` asks outside it, and presents at most once. -/
theorem TickEvents.counts {d : List Event} (h : TickEvents d) :
    d.count .pollQuit = 0 ∧ d.count .readIE = 0 ∧ d.count .fetch = 0 ∧ d.count .now = 0 ∧ d.countP isExec = 0 ∧
      d.countP isPresent ≤ 1 := by
  obtain rfl | ⟨created, f, rfl⟩ := h
  · simp
  · cases created with
    | true | false => simp [renderEvents, isExec, isPresent]

section
variable {e : Env} {now : Millis} {s : State}

theorem render_done_trace {t : State} (hr : render e s = .done t) : ∃ f, t.trace = s.trace ++ renderEvents s.pbCreated f := by
  revert hr
  refine render_cases (P := fun r => r = .done t → ∃ f, t.trace = s.trace ++ renderEvents s.pbCreated f) e s
    ?createFails ?lockFails ?draws
  case createFails => intro _ _ hr; exact nomatch hr
  case lockFails => intro u _ _ hr; exact nomatch hr
  case draws =>
    rintro u (hu : LocksIn e s u) _ ⟨rfl⟩
    refine ⟨(drawn e u).pb, ?_⟩
    rw [drawn_eq e hu.created, hu.eq_created, renderEvents]
    simp

theorem render_fatal_run {t : State} (hr : render e s = .fatal t) : t.run ≠ .running := by
  revert hr
  refine render_cases (P := fun r => r = .fatal t → t.run ≠ .running) e s ?createFails ?lockFails ?draws
  case createFails => rintro _ _ ⟨rfl⟩; simp
  case lockFails => rintro u _ _ ⟨rfl⟩; simp
  case draws => intro u _ _ hr; exact nomatch hr

theorem tick_trace_of_running (h : (tick e now s).run = .running) :
    ∃ d, (tick e now s).trace = s.trace ++ d ∧ TickEvents d := by
  revert h
  refine tick_cases (P := fun t => t.run = .running → ∃ d, t.trace = s.trace ++ d ∧ TickEvents d) e now s
    ?idle ?odd ?even ?fatal
  case idle => intro _ _; exact ⟨[], by simp, .inl rfl⟩
  case odd => intro _ _ _; exact ⟨[], by simp, .inl rfl⟩
  case even =>
    intro t _ _ hr _
    obtain ⟨f, hf⟩ := render_done_trace hr
    exact ⟨_, hf, .inr ⟨_, f, rfl⟩⟩
  case fatal => intro t _ _ hr hrun; exact absurd hrun (render_fatal_run hr)

/-- The events of `ITER` up to the clock's sample. -/
def sampledEvents (e : Env) (s : State) : List Event :=
  if s.pending = true ∧ e.ie = true then
    [.pollQuit, .readIE, .exec (vecCode s.cfg.params s.latchedVector), .fetch, .exec e.op, .now]
  else [.pollQuit, .readIE, .fetch, .exec e.op, .now]

theorem sampledEvents_begun (e : Env) (s : State) : sampledEvents e s.begun = sampledEvents e s := rfl

theorem sampled_trace (e : Env) (s : State) : ((fetched e s).emit .now).trace = s.trace ++ sampledEvents e s := by
  unfold sampledEvents
  split_ifs with hd
  · obtain ⟨hp, hie⟩ := hd
    simp [fetched_of_enabled hp hie]
  · have hmasked : s.pending = false ∨ e.ie = false := by simpa [or_iff_not_imp_left] using hd
    simp [fetched_of_masked hmasked]

theorem sampledEvents_counts (e : Env) (s : State) :
    (sampledEvents e s).count .pollQuit = 1 ∧ (sampledEvents e s).count .readIE = 1 ∧
      (sampledEvents e s).count .fetch = 1 ∧ (sampledEvents e s).count .now = 1 ∧
      (sampledEvents e s).countP isExec = (if s.pending = true ∧ e.ie = true then 2 else 1) ∧
      (sampledEvents e s).countP isPresent = 0 := by
  unfold sampledEvents
  split_ifs
  · simp [List.countP_cons, isExec, isPresent]
  · simp [List.countP_cons, isExec, isPresent]

end

/-- Settles O39: the events up to the clock's sample, and those of a `TICK` after which the run goes on. -/
theorem iterationTransactionCounts : Obligations.IterationTransactionCounts := by
  intro s t h hrun
  obtain ⟨-, rfl⟩ := whenRunning_next.1 h
  have htick := iterate_eq_tick_of_running hrun
  rw [htick] at hrun ⊢
  obtain ⟨d, htrace, hd⟩ := tick_trace_of_running hrun
  obtain ⟨hpoll, hread, hfetch, hnow, hexec, hpresent⟩ := hd.counts
  obtain ⟨spoll, sread, sfetch, snow, sexec, spresent⟩ := sampledEvents_counts s.env s
  refine ⟨sampledEvents s.env s ++ d, ?events, ?counts⟩
  case events => rw [htrace, sampled_trace, sampledEvents_begun, State.begun_trace, List.append_assoc]
  case counts => simp [hpoll, hread, hfetch, hnow, hexec, hpresent, spoll, sread, sfetch, snow, sexec, spresent]

end Sys2Proof.Machine
end

section
/-! A byte-addressed surface (spec/43_external_interfaces.md R196; spec/20_memory.md R57): where a pixel stands, and the four
bytes of each pixel of a frame. -/

namespace Sys2Proof.Machine

/-! ## Addresses (R196) -/

/-- Under the pitch `4 * W` rows follow each other without a gap, so a pixel's row and column recombine to its index. -/
theorem pixelAddr_pitch (p : Params) (pointer k : Nat) : pixelAddr p pointer (pitch p) k = pointer + 4 * k := by
  have hrow : k / p.w * (4 * p.w) = 4 * (k / p.w * p.w) := Nat.mul_left_comm ..
  have hindex : k / p.w * p.w + k % p.w = k := Nat.div_add_mod' k p.w
  unfold pixelAddr pitch
  omega

/-! ## Bytes (R57) -/

@[simp] theorem pixelBytes_length (v : Pixel) : (pixelBytes v).length = 4 := rfl

theorem getElem?_pixelBytes (v : Pixel) {j : Nat} (hj : j < 4) : (pixelBytes v)[j]? = some (v.extractLsb' (8 * j) 8) := by
  match j with
  | 0 | 1 | 2 | 3 => rfl

theorem surfaceBytes_cons (v : Pixel) (f : List Pixel) : surfaceBytes (v :: f) = pixelBytes v ++ surfaceBytes f :=
  List.flatMap_cons

/-- Each pixel takes four bytes, so byte `j` of pixel `k` is the pixel word's own byte `j`. -/
theorem getElem?_surfaceBytes {f : List Pixel} {k j : Nat} {v : Pixel} (hv : f[k]? = some v) (hj : j < 4) :
    (surfaceBytes f)[4 * k + j]? = some (v.extractLsb' (8 * j) 8) := by
  induction f generalizing k with
  | nil => simp at hv
  | cons x f ih =>
    rw [surfaceBytes_cons]
    cases k with
    | zero =>
      obtain rfl : x = v := by simpa using hv
      rw [Nat.mul_zero, Nat.zero_add, List.getElem?_append_left hj, getElem?_pixelBytes x hj]
    | succ k =>
      have hoffset : 4 * (k + 1) + j - (pixelBytes x).length = 4 * k + j := by rw [pixelBytes_length]; omega
      rw [List.getElem?_append_right (by rw [pixelBytes_length]; omega), hoffset]
      exact ih (by simpa using hv)

/-- Settles O32: the address is R196's formula, linear under the pitch `4 * W`, and a frame's bytes lie four by four. -/
theorem surfaceIsLinear : Obligations.SurfaceIsLinear :=
  ⟨fun _ _ _ _ => rfl, fun b => pixelAddr_pitch b.params, fun _ _ _ _ => getElem?_surfaceBytes⟩

end Sys2Proof.Machine
end

section
/-! A fatal first render (spec/60_exceptions.md R203, R204). -/

namespace Sys2Proof.Machine

/-- Settles O23: the render of the begun state finds no buffer and cannot create one, so the fatal path has none to release. -/
theorem createFailureIsFatal : Obligations.CreateFailureIsFatal := by
  intro s hrun hnone hcreate
  rw [exec_render hrun, render_eq_fatal_of_create (s := s.begun) hnone hcreate]
  rfl

end Sys2Proof.Machine
end
